-- ==== Sys2Proof/Word.lean ====
section
/-! DEFINITION. The word types of the RZK-6014 (00_scope.md, Conventions) and the four-fold container
used for carriers 0 to 3 and classes 0 to 3. -/

namespace Sys2Proof

/-- One byte on a wire or in a frame. -/
abbrev Byte := BitVec 8

/-- A frame number, 0 to 4095, wrapping to 0 (R5). -/
abbrev FrameNo := BitVec 12

/-- A segment sequence number, 0 to 65,535, wrapping to 0 (00_scope.md, Conventions). -/
abbrev SeqNo := BitVec 16

/-- A request tag, 0 to 3, counted modulo 4 (R74). -/
abbrev Tag := BitVec 2

/-- A carrier, 0 to 3. -/
abbrev CarrierId := Fin 4

/-- A traffic class, 0 to 3; class 0 is the most important. -/
abbrev ClassId := Fin 4

/-- The bytes of one Ethernet frame, from the first byte of the destination address to the last byte of
the frame check sequence (R101). -/
abbrev Frame := List Byte

/-- Four like things, one for each carrier or one for each class. -/
structure Quad (α : Type) where
  at0 : α
  at1 : α
  at2 : α
  at3 : α
  deriving DecidableEq, Repr

/-- Every one of the four is `a`. -/
def Quad.all {α : Type} (a : α) : Quad α := ⟨a, a, a, a⟩

/-- The one with the given number. -/
def Quad.get {α : Type} (q : Quad α) (i : Fin 4) : α :=
  match i with
  | 0 => q.at0
  | 1 => q.at1
  | 2 => q.at2
  | 3 => q.at3

/-- Replace the one with the given number. -/
def Quad.set {α : Type} (q : Quad α) (i : Fin 4) (a : α) : Quad α :=
  match i with
  | 0 => ⟨a, q.at1, q.at2, q.at3⟩
  | 1 => ⟨q.at0, a, q.at2, q.at3⟩
  | 2 => ⟨q.at0, q.at1, a, q.at3⟩
  | 3 => ⟨q.at0, q.at1, q.at2, a⟩

/-- Change the one with the given number. -/
def Quad.upd {α : Type} (q : Quad α) (i : Fin 4) (f : α → α) : Quad α := q.set i (f (q.get i))

/-- Change all four. -/
def Quad.map {α β : Type} (q : Quad α) (f : α → β) : Quad β := ⟨f q.at0, f q.at1, f q.at2, f q.at3⟩

/-- The four in order of their numbers. -/
def Quad.toList {α : Type} (q : Quad α) : List α := [q.at0, q.at1, q.at2, q.at3]

/-- The sum of four numbers. -/
def Quad.sum (q : Quad Nat) : Nat := q.at0 + q.at1 + q.at2 + q.at3

end Sys2Proof
end

