-- ==== Sys2Proof/Syntax.lean ====
section
/-! DEFINITION. The commands of the RZK-6014: one constructor of `Instr` for each row of spec/opcode_table.json, with the
row's operands, and the commands that a management frame can carry (section 13.3). -/

namespace Sys2Proof

/-- One segment slot of an inbound frame as the modem hands it over: its 68 bytes and its valid flag (section 1.6). -/
structure InboundSlot where
  valid : Bool
  bytes : List Byte
  deriving DecidableEq, Repr

/-- One inbound frame arrival: the items of section 1.6. -/
structure InboundFrame where
  /-- Clear when the modem could not find the frame. -/
  lock : Bool
  /-- The 14 header bytes, absent when the lock flag is clear. -/
  header : Option (List Byte)
  /-- The error-energy index x, 0 to 1023. -/
  x : Nat
  /-- The uncorrected block count b, 0 to 63. -/
  b : Nat
  /-- One slot for each slot of the frame. -/
  slots : List InboundSlot
  deriving DecidableEq, Repr

/-- A complete Ethernet frame from the site switch. `whole` is clear for a frame that was already arriving before the
RESET line was last released (R104). -/
structure IngressFrame where
  bytes : Frame
  whole : Bool
  deriving DecidableEq, Repr

/-- One LADDER entry as a TABLE_WRITE gives it, before any clamping (section 13.3). -/
structure LadderEntryRaw where
  modulation : Byte
  rate : Byte
  capacity : BitVec 16
  enter : BitVec 16
  hold : BitVec 16
  deriving DecidableEq, Repr

/-- One FLOW entry as a TABLE_WRITE gives it, before any clamping (section 13.3). -/
structure FlowEntryRaw where
  valid : Byte
  tagMatch : Byte
  vlanLow : BitVec 16
  vlanHigh : BitVec 16
  prioLow : Byte
  prioHigh : Byte
  action : Byte
  cls : Byte
  deriving DecidableEq, Repr

/-- The parameters of SET and GET, in the order of the table of R177. -/
inductive Param where
  | acquisitionCountLimit
  | freshnessLimit
  | recovery
  | adaptationMode
  | fixedProfile
  | rxFloor
  | rxCeiling
  | txCeiling
  | blockPenalty
  | fallShift
  | riseShift
  | slopeShift
  | lookahead
  | upshiftDwell
  | holdOff
  | urgentSlope
  | requestTime
  | stepDelay
  | sweepDwell
  | defaultClass
  | gapTime
  | lateRunLimit
  | managementTypeCode
  | alertMask
  deriving DecidableEq, Repr

/-- The commands of a management frame once their bytes are read (R171, section 13.3). Carrier numbers and codes are kept
as the bytes the frame gave, because the owning rules judge them. -/
inductive Command where
  | status (clear : Byte)
  | writeLadder (carrier start : Byte) (entries : List LadderEntryRaw)
  | writeLadderLength (carrier start : Byte) (values : List Byte)
  | writeCurve (carrier start : Byte) (values : List (BitVec 16))
  | writeFlow (start : Byte) (entries : List FlowEntryRaw)
  | writeShed (start : Byte) (values : List (BitVec 16))
  | writeClassLimit (start : Byte) (values : List (BitVec 16))
  | tableRead (table carrier start count : Byte)
  | set (p : Param) (carrier : Byte) (value : BitVec 32)
  | get (param carrier : Byte)
  | enable (carrier : Byte)
  | disable (carrier : Byte)
  | restart (carrier : Byte)
  | testEnter (carrier profile : Byte)
  | testLeave (carrier : Byte)
  | clearHold (carrier : Byte)
  | sweep (carrier start : Byte) (dwell : Option (BitVec 16))
  | captureArm (carrier trigger : Byte) (post : BitVec 16)
  | captureCancel
  | captureRead (offset : BitVec 16) (count : Byte)
  | latchClear (mask : BitVec 32)
  | resetTraffic
  | resetDevice
  deriving DecidableEq, Repr

/-- The commands of the block: one constructor for each row of spec/opcode_table.json. Rows that name what comes about
inside another event (the acquisition that completes at an inbound arrival, for one) carry that event's operands.
`taken` is the number of items handed to the Resequencer that it takes before any other event (R135), and `run` the number
of commands of a management frame that are run before any other event (R171). -/
inductive Instr where
  | outboundFrameStart (c : CarrierId)
  | requestTimerExpiry (c : CarrierId)
  | fill
  | inboundFrameArrival (c : CarrierId) (f : InboundFrame) (taken : Nat)
  | fallbackEntry (c : CarrierId) (f : InboundFrame) (taken : Nat)
  | acquisition (c : CarrierId) (f : InboundFrame) (taken : Nat)
  | recovery (c : CarrierId) (f : InboundFrame) (taken : Nat)
  | captureDone (c : CarrierId) (f : InboundFrame) (taken : Nat)
  | segmentArrival (c : CarrierId)
  | lossMark (c : CarrierId)
  | lateResync (c : CarrierId)
  | tick
  | gapExpiry
  | ingressFrameArrival (f : IngressFrame)
  | managementFrameExecution (run : Nat)
  | status (clear : Byte)
  | tableWriteLadder (carrier start : Byte) (entries : List LadderEntryRaw)
  | tableWriteLadderLength (carrier start : Byte) (values : List Byte)
  | tableWriteCurve (carrier start : Byte) (values : List (BitVec 16))
  | tableWriteFlow (start : Byte) (entries : List FlowEntryRaw)
  | tableWriteShed (start : Byte) (values : List (BitVec 16))
  | tableWriteClassLimit (start : Byte) (values : List (BitVec 16))
  | tableRead (table carrier start count : Byte)
  | setAcquisitionCountLimit (carrier : Byte) (value : BitVec 32)
  | setFreshnessLimit (carrier : Byte) (value : BitVec 32)
  | setRecovery (carrier : Byte) (value : BitVec 32)
  | setAdaptationMode (carrier : Byte) (value : BitVec 32)
  | setFixedProfile (carrier : Byte) (value : BitVec 32)
  | setRxFloor (carrier : Byte) (value : BitVec 32)
  | setRxCeiling (carrier : Byte) (value : BitVec 32)
  | setTxCeiling (carrier : Byte) (value : BitVec 32)
  | setBlockPenalty (carrier : Byte) (value : BitVec 32)
  | setFallShift (carrier : Byte) (value : BitVec 32)
  | setRiseShift (carrier : Byte) (value : BitVec 32)
  | setSlopeShift (carrier : Byte) (value : BitVec 32)
  | setLookahead (carrier : Byte) (value : BitVec 32)
  | setUpshiftDwell (carrier : Byte) (value : BitVec 32)
  | setHoldOff (carrier : Byte) (value : BitVec 32)
  | setUrgentSlope (carrier : Byte) (value : BitVec 32)
  | setRequestTime (carrier : Byte) (value : BitVec 32)
  | setStepDelay (carrier : Byte) (value : BitVec 32)
  | setSweepDwell (carrier : Byte) (value : BitVec 32)
  | setDefaultClass (value : BitVec 32)
  | setGapTime (value : BitVec 32)
  | setLateRunLimit (value : BitVec 32)
  | setManagementTypeCode (value : BitVec 32)
  | setAlertMask (value : BitVec 32)
  | get (param carrier : Byte)
  | carrierEnable (carrier : Byte)
  | carrierDisable (carrier : Byte)
  | carrierRestart (carrier : Byte)
  | testEnter (carrier profile : Byte)
  | testLeave (carrier : Byte)
  | clearHold (carrier : Byte)
  | sweep (carrier start : Byte) (dwell : Option (BitVec 16))
  | sweepStep
  | captureArm (carrier trigger : Byte) (post : BitVec 16)
  | captureCancel
  | captureRead (offset : BitVec 16) (count : Byte)
  | latchClear (mask : BitVec 32)
  | resetTraffic
  | resetDevice
  | resetLineAssertion (addr : BitVec 6)
  | powerOn (addr : BitVec 6)
  | resetLineRelease
  deriving DecidableEq, Repr

end Sys2Proof
end

