-- ==== Sys2Proof/Decode.lean ====
section
/-! DEFINITION. The words of the opcode table. The block decodes no instruction words: no row of spec/opcode_table.json gives bits (its
"fields" are empty and it has no "fixed"), so no word spells a command. -/

namespace Sys2Proof

/-- The command that a word spells by the opcode table's bits: none, since no row gives bits. -/
def decodeTableWord (_nbits _w : Nat) : Option Instr := none

end Sys2Proof
end

