-- ==== Sys2Proof/Config.lean ====
section
/-! DEFINITION. What silicon revision B of the RZK-6014 fixes: its sizes, limits and device reset values. The spec
leaves no result open, so there is no free value here (INVENTORY.md, What the manual leaves open). -/

namespace Sys2Proof.Config

/-- The value at which a counter holds until it is cleared (R16 and the counter rule of each chapter). -/
def counterMax : Nat := 4294967295

/-- The value at which the freshness counter holds (R20). -/
def freshnessMax : Nat := 65535

/-- The slots of the shared buffer of the Class Queues (R113). -/
def bufferSlots : Nat := 16384

/-- The window store's positions (R133). -/
def windowSize : Nat := 4096

/-- The records of the history ring (R160). -/
def ringSize : Nat := 512

/-- The frames of the management input queue (R169). -/
def inputQueueSize : Nat := 4

/-- The largest number of segments of one site frame (R144). -/
def maxFrameSegments : Nat := 150

/-- The shortest and the longest ingress frame, in bytes (R101). -/
def minFrame : Nat := 64

/-- The longest ingress frame, in bytes (R101). -/
def maxFrame : Nat := 9600

/-- The limit of a response body, in bytes (R173). -/
def responseLimit : Nat := 1500

/-- The part code that the status report opens with (R175). -/
def partCode : Nat := 0x6014

/-- The silicon revision letter "B" (section 13.4). -/
def revision : Byte := 0x42#8

/-- The management type code after a device reset (R168). -/
def typeCodeReset : BitVec 16 := 0xA3E1#16

/-- The tag identifier of a tagged Ethernet frame, which the management type code may not take (R105, R168). -/
def vlanTagId : Nat := 0x8100

/-- The first five octets of every management address, 02-5A-7E-00-00 (R167). -/
def addressStem : List Byte := [0x02#8, 0x5A#8, 0x7E#8, 0x00#8, 0x00#8]

/-- The broadcast address (R167). -/
def broadcast : List Byte := [0xFF#8, 0xFF#8, 0xFF#8, 0xFF#8, 0xFF#8, 0xFF#8]

/-- The calibration curve after a device reset, C[k] = 400 - 25 k (R43). -/
def curveReset : Vector Nat 17 :=
  #v[400, 375, 350, 325, 300, 275, 250, 225, 200, 175, 150, 125, 100, 75, 50, 25, 0]

/-- The class limits after a device reset (R113). -/
def limitReset : Quad Nat := ⟨1024, 2048, 6144, 6144⟩

end Sys2Proof.Config
end

