-- ==== Sys2Proof/Machine/State.lean ====
section
/-! DEFINITION. The state of the RZK-6014 as plain data, the reasons a step can stop, and the state after a device reset. Each structure
is one block of 00_scope.md, Blocks; each field cites the rule that names it. Aggregate capacity A (R110), the free slot
count (R113), the ALERT line (R182) and the effective windows (R36) are functions of what stands here, defined in
Machine/Ops.lean and Machine/Flags.lean. -/

namespace Sys2Proof.Machine

/-- Why the block can stop. -/
inductive Fault where
  /-- Raised by an outbound frame start whose carrier is not OFF and whose lane does not hold the fill record of the frame that
  starts. R1, R3 and R4 keep that record in every state the part reaches. Safe: the model stops where the part goes on. -/
  | noFillRecord
  deriving DecidableEq, Repr

/-- Why a command can have no meaning. -/
inductive Refusal where
  /-- A command that has no meaning yet, raised only by the rejected arms of the dispatch; no arm raises it now. Safe: the model
  stops. -/
  | notModelled (mnemonic : String)
  deriving DecidableEq, Repr

/-- What a step of the block answers. -/
abbrev Answer (σ : Type) := Host.Outcome σ Fault Refusal

/-! ### Segments and fill records (Chapter 1) -/

/-- A segment: its header fields and its 64 payload bytes (section 1.4). -/
structure Segment where
  seq : SeqNo
  first : Bool
  last : Bool
  idle : Bool
  count : Nat
  payload : List Byte
  deriving DecidableEq, Repr

/-- What the slots of an outbound frame hold: segments, or the test pattern over a number of slots (R6, R151). -/
inductive Payload where
  | segments (slots : List Segment)
  | pattern (slots : Nat)
  deriving DecidableEq, Repr

/-- The complete description of one outbound frame, fixed when it is filled (section 1.1). -/
structure FillRecord where
  fn : FrameNo
  profile : Nat
  modulation : Nat
  rate : Nat
  capacity : Nat
  payload : Payload
  firstSeq : SeqNo
  dataCount : Nat
  deriving DecidableEq, Repr

/-- What a lane hands over to the Resequencer in step 7 of an inbound arrival (R15, R135). -/
inductive Item where
  | segment (seg : Segment)
  | loss (seq : SeqNo)
  deriving DecidableEq, Repr

/-- The state of one Carrier Lane (section 1.1, R16). -/
structure Lane where
  /-- The outbound frame counter (R1, R3). -/
  outCounter : FrameNo
  /-- The fill records of the frames filled and not yet started, oldest first (R1, R4). -/
  records : List FillRecord
  /-- Nf, the number of the next frame to be filled (R1, R4). -/
  nf : Option FrameNo
  /-- The profile table the modem holds: modulation code and code-rate index by index; none while OFF (R2). -/
  modemTable : Option (List (Nat × Nat))
  /-- Items handed over to the Resequencer and not yet taken by it, oldest first (R14 step 7, R135). DESIGN CHOICE
  (notes/assumptions/3.md): the model holds them here. -/
  handover : List Item
  framesSent : Nat
  framesReceived : Nat
  discardedOff : Nat
  unlocked : Nat
  checkFailures : Nat
  badStatus : Nat
  unreadable : Nat
  formatErrors : Nat
  deriving DecidableEq, Repr

/-! ### Carrier State Control (Chapter 2) -/

/-- The six carrier states (R17). -/
inductive CarrierState where
  | off
  | acquire
  | run
  | fallback
  | hold
  | test
  deriving DecidableEq, Repr

/-- The recovery setting (R19, R24). -/
inductive Recovery where
  | auto
  | latch
  deriving DecidableEq, Repr

/-- The adaptation mode (R33). -/
inductive Mode where
  | adaptive
  | fixed
  deriving DecidableEq, Repr

/-- The state, settings and counters of one Carrier State Control (R17 to R21, R38). -/
structure Control where
  state : CarrierState
  freshness : Nat
  acqCount : Nat
  na : Nat
  tf : Nat
  recovery : Recovery
  mode : Mode
  fixedProfile : Nat
  rxFloor : Nat
  rxCeiling : Nat
  txCeiling : Nat
  acquisitions : Nat
  fallbacks : Nat
  recoveries : Nat
  ladderMismatches : Nat
  deriving DecidableEq, Repr

/-! ### Quality Estimator (Chapter 3) -/

/-- The filter state, calibration curve and settings of one Quality Estimator (section 3.1, R39, R40, R43). Levels and slope
are exact integers in the manual's units. -/
structure Estimator where
  level : Int
  slope : Int
  predicted : Int
  quality : Int
  firstSample : Bool
  curve : Vector Nat 17
  pb : Nat
  ad : Nat
  au : Nat
  bs : Nat
  lp : Nat
  deriving DecidableEq, Repr

/-! ### Profile Ladder and Profile Requester (Chapters 4 and 5) -/

/-- One ladder entry (R59). -/
structure LadderEntry where
  modulation : Nat
  rate : Nat
  capacity : Nat
  enter : Nat
  hold : Nat
  deriving DecidableEq, Repr

/-- The Profile Ladder of one carrier (R58). -/
structure Ladder where
  length : Nat
  entries : Vector LadderEntry 12
  code : Byte
  locked : Bool
  deriving DecidableEq, Repr

/-- The kind of a request (R71). -/
inductive Kind where
  | step
  | urgent
  deriving DecidableEq, Repr

/-- A request: its kind and target (R65). -/
structure Request where
  kind : Kind
  target : Nat
  deriving DecidableEq, Repr

/-- The request state with the outstanding request and the pending record it holds (R65): neither is present in IDLE, and
the pending record is present in PENDING alone. -/
inductive ReqState where
  | idle
  | requesting (r : Request)
  | pending (r : Request) (granted : Nat) (sf : FrameNo)
  deriving DecidableEq, Repr

/-- The state, settings and counters of one Profile Requester (R65, R66, R77, R85). -/
structure Requester where
  /-- The inbound profile k. -/
  inbound : Nat
  state : ReqState
  /-- The lower end of the effective rx window at the last decision taken in IDLE (R98). DEDUCED (notes/assumptions/28.md): it is kept. -/
  decidedLo : Nat
  tag : Tag
  dwell : Nat
  holdOff : Nat
  timer : Nat
  nu : Nat
  th : Nat
  gu : Int
  tr : Nat
  stepIssued : Nat
  urgentIssued : Nat
  supersedes : Nat
  upshifts : Nat
  downshifts : Nat
  refusals : Nat
  busyAnswers : Nat
  timeouts : Nat
  mismatches : Nat
  unsolicited : Nat
  deriving DecidableEq, Repr

/-! ### Switch Scheduler (Chapter 5) -/

/-- A scheduled switch: granted profile, switch frame and tag (R86). -/
structure Scheduled where
  granted : Nat
  sf : FrameNo
  tag : Tag
  deriving DecidableEq, Repr

/-- The verdict on a request, with what an ACCEPT carries (R89, R90). -/
inductive Verdict where
  | accept (granted : Nat) (sf : FrameNo)
  | refuse
  | busy
  deriving DecidableEq, Repr

/-- A last-answer record whose tag is not none (R86, R90). -/
structure AnswerRecord where
  tag : Tag
  verdict : Verdict
  deriving DecidableEq, Repr

/-- The state, setting and counters of one Switch Scheduler (R86, R95). -/
structure Scheduler where
  outbound : Nat
  scheduled : Option Scheduled
  forced : Option Nat
  answer : Option AnswerRecord
  ds : Nat
  requestsTaken : Nat
  acceptSent : Nat
  refuseSent : Nat
  busySent : Nat
  scheduledMade : Nat
  forcedMade : Nat
  deriving DecidableEq, Repr

/-! ### Segment Distributor, per carrier (Chapter 7), and Test Unit (Chapter 9) -/

/-- What the Segment Distributor holds for one carrier: its standing fill request, naming the frame to be filled, and
its counters (R120, R132). -/
structure Distributor where
  request : Option FrameNo
  dataFills : Nat
  idleFills : Nat
  patternFills : Nat
  dataSegments : Nat
  idleSegments : Nat
  deriving DecidableEq, Repr

/-- One row of the test result table (R149). -/
structure ResultRow where
  checked : Nat
  errored : Nat
  bitErrors : Nat
  deriving DecidableEq, Repr

/-- The state of one Test Unit (R149). -/
structure TestUnit where
  rows : Vector ResultRow 12
  lostFrames : Nat
  nonTest : Nat
  discarded : Nat
  sweepActive : Bool
  sweepStep : Nat
  sweepCount : Nat
  dw : Nat
  deriving DecidableEq, Repr

/-- Everything the part holds for one carrier. -/
structure Carrier where
  lane : Lane
  control : Control
  est : Estimator
  ladder : Ladder
  req : Requester
  sched : Scheduler
  dist : Distributor
  test : TestUnit
  deriving DecidableEq, Repr

/-! ### Site Port, Flow Classifier, Class Admission, Class Queues (Chapters 6 and 7) -/

/-- The Site Port counters (R104). -/
structure SitePort where
  fcsErrors : Nat
  shortFrames : Nat
  longFrames : Nat
  accepted : Nat
  diverted : Nat
  egressDelivered : Nat
  deriving DecidableEq, Repr

/-- The tag match of a Flow Table entry (R106). -/
inductive TagMatch where
  | tagged
  | untagged
  | any
  deriving DecidableEq, Repr

/-- The action of a Flow Table entry (R106). -/
inductive FlowAction where
  | cls
  | drop
  deriving DecidableEq, Repr

/-- One Flow Table entry with its hit counter (R106). -/
structure FlowEntry where
  valid : Bool
  tagMatch : TagMatch
  vlanLow : Nat
  vlanHigh : Nat
  prioLow : Nat
  prioHigh : Nat
  action : FlowAction
  cls : ClassId
  hits : Nat
  deriving DecidableEq, Repr

/-- The Flow Classifier (R106, R108). -/
structure Classifier where
  table : Vector FlowEntry 64
  defaultClass : ClassId
  drops : Nat
  defaultFrames : Nat
  deriving DecidableEq, Repr

/-- The counters of one class (R119). -/
structure ClassCounters where
  admitted : Nat
  shedDrops : Nat
  limitDrops : Nat
  bufferDrops : Nat
  shedEntries : Nat
  deriving DecidableEq, Repr

/-- Class Admission (R110 to R114, R119). `shedTable` has the SHED table's four positions: Ah at position 0 and Amin_1 to Amin_3 at
positions 1 to 3. Class 0 is never shed, so `shed.at0` stays clear (R112). -/
structure Admission where
  contributions : Quad Nat
  shedTable : Quad Nat
  shed : Quad Bool
  limits : Quad Nat
  counters : Quad ClassCounters
  deriving DecidableEq, Repr

/-- The frame-in-progress cursor: the frame, its class and the index of its next slot (R120). -/
structure Cursor where
  frame : Frame
  cls : ClassId
  next : Nat
  deriving DecidableEq, Repr

/-- The Class Queues and the Segment Distributor's device state (R113, R115, R120, R132). -/
structure Queues where
  frames : Quad (List Frame)
  occupancy : Quad Nat
  cursor : Option Cursor
  /-- The outbound sequence counter. -/
  seq : SeqNo
  framesStarted : Nat
  deriving DecidableEq, Repr

/-- A data fill that is being carried out, between two of its draws (R121, R122, R125): its carrier and frame, the profile given in
step 1 and the segments drawn so far, slot 0 first. -/
structure OpenFill where
  carrier : CarrierId
  fn : FrameNo
  profile : Nat
  drawn : List Segment
  deriving DecidableEq, Repr

/-! ### Resequencer (Chapter 8) -/

/-- What an occupied window position holds (R133). -/
inductive Slot where
  | segment (seg : Segment)
  | lost
  deriving DecidableEq, Repr

/-- The reassembly context: the segment count and the bytes of the frame in progress (R133). -/
structure Reassembly where
  count : Nat
  bytes : List Byte
  deriving DecidableEq, Repr

/-- The state, settings and counters of the Resequencer (R133, R134, R148). The window store lists its occupied
positions alone, by their distance from E, in rising order (notes/assumptions/20.md). -/
structure Reseq where
  synced : Bool
  expected : SeqNo
  window : List (Nat × Slot)
  /-- The gap timer: none when stopped. -/
  gap : Option Nat
  lateRun : Nat
  context : Option Reassembly
  tg : Nat
  k : Nat
  stored : Nat
  duplicates : Nat
  late : Nat
  unsyncedDiscards : Nat
  resyncs : Nat
  lateResyncs : Nat
  resyncLosses : Nat
  resyncFrameDiscards : Nat
  marksTaken : Nat
  marksIgnored : Nat
  gapExpiries : Nat
  gapPositionsLost : Nat
  lostDelivered : Nat
  partialDiscards : Nat
  oversizeDiscards : Nat
  orphans : Nat
  lossDiscards : Nat
  framesToEgress : Nat
  framesToManagement : Nat
  deriving DecidableEq, Repr

/-! ### History Capture (Chapter 10) -/

/-- The capture states (R160). -/
inductive CaptureState where
  | idle
  | armed
  | post
  | done
  deriving DecidableEq, Repr

/-- The capture triggers (R162). -/
inductive Trigger where
  | immediate
  | anyDownshift
  | urgent
  | fallback
  | mismatch
  deriving DecidableEq, Repr

/-- How a capture reached DONE (R160). -/
inductive EndCause where
  | normal
  | cut
  deriving DecidableEq, Repr

/-- One history record (R161). -/
structure Record where
  fn : Option FrameNo
  x : Nat
  sample : Int
  level : Int
  slope : Int
  quality : Int
  inbound : Nat
  issued : Option Request
  answerTaken : Bool
  completed : Bool
  mismatch : Bool
  fallback : Bool
  outOfOrder : Bool
  trigger : Bool
  deriving DecidableEq, Repr

/-- History Capture (R160); the ring lists its records oldest first. -/
structure History where
  state : CaptureState
  carrier : CarrierId
  trigger : Trigger
  post : Nat
  ring : List Record
  postRecords : Nat
  lastFn : Option FrameNo
  cause : EndCause
  deriving DecidableEq, Repr

/-! ### Management Agent and Alert Unit (Chapter 11) -/

/-- The side a management frame came from (R167). -/
inductive Side where
  | site
  | radio
  deriving DecidableEq, Repr

/-- A recognised management frame in the input queue (R167, R169). -/
structure QueuedFrame where
  side : Side
  frame : Frame
  deriving DecidableEq, Repr

/-- One command entry of a management frame: code, tag and argument bytes (section 13.3). -/
structure RawCommand where
  code : Byte
  tag : Byte
  args : List Byte
  deriving DecidableEq, Repr

/-- The results of a command (R172), in the order of their codes. -/
inductive Result where
  | ok
  | clamped
  | range
  | locked
  | busy
  | state
  | ladder
  | unknown
  | length
  | tooLong
  deriving DecidableEq, Repr

/-- One entry of a response: command code, tag, result and data (R173). -/
structure ReplyEntry where
  code : Byte
  tag : Byte
  result : Result
  data : List Byte
  deriving DecidableEq, Repr

/-- The execution of the frame at the head of the input queue, when some of its commands have been run and others not (R171):
the commands left and the response entries made so far. DESIGN CHOICE (notes/assumptions/5.md): the model holds them here. -/
structure Execution where
  left : List RawCommand
  entries : List ReplyEntry
  deriving DecidableEq, Repr

/-- The result and data that the command run last returned (R172). DESIGN CHOICE (notes/assumptions/6.md): the model keeps them. -/
structure Reply where
  result : Result
  data : List Byte
  deriving DecidableEq, Repr

/-- The Management Agent (R167 to R171, R183). -/
structure Agent where
  typeCode : BitVec 16
  /-- The address-select value sampled at the last device reset (R168). -/
  addr : BitVec 6
  queue : List QueuedFrame
  execution : Option Execution
  reply : Option Reply
  queuedSite : Nat
  queuedRadio : Nat
  queueDrops : Nat
  malformed : Nat
  ignored : Nat
  commandsRun : Nat
  commandsRefused : Nat
  responsesSent : Nat
  deriving DecidableEq, Repr

/-- The Alert Unit: 21 latches and the alert mask, one bit for each latch in the order of section 13.3 (R180, R182). -/
structure Alert where
  latches : BitVec 21
  mask : BitVec 21
  deriving DecidableEq, Repr

/-! ### Pins and what leaves the part -/

/-- The input pins that hold a level: whether RESET is low, and the strapped levels of ADDR0 to ADDR5 (00_scope.md, Pins). -/
structure Pins where
  resetLow : Bool
  addr : BitVec 6
  deriving DecidableEq, Repr

/-- What a lane hands its modem at an outbound frame start: the header and the fill record (R3 step 3). -/
structure ModemFrame where
  header : List Byte
  record : FillRecord
  deriving DecidableEq, Repr

/-- What has left the part, oldest first: the frames delivered to the site switch (R103) and the frames handed to each
modem (R3). Nothing in the part reads it. DESIGN CHOICE (notes/assumptions/18.md): a log that nothing clears. -/
structure Outputs where
  egress : List Frame
  modem : Quad (List ModemFrame)
  deriving DecidableEq, Repr

/-- The whole state. -/
structure State where
  carriers : Quad Carrier
  site : SitePort
  classifier : Classifier
  admission : Admission
  queues : Queues
  /-- The fill that the Distributor is carrying out, if it has draws left to make (R121, R122). -/
  filling : Option OpenFill
  reseq : Reseq
  history : History
  agent : Agent
  alert : Alert
  pins : Pins
  out : Outputs
  /-- How many segments a fill draws before any other event, one number for each FILL that goes on with a data fill, first in, first out
  (R122); with none listed a data fill is carried out whole. Given from outside as `pending` is. DESIGN CHOICE
  (notes/assumptions/7.md): the model's own field. -/
  drawPlan : List Nat
  /-- The commands that wait, first in, first out. -/
  pending : List Instr
  deriving DecidableEq, Repr

/-! ### Reset values -/

/-- A Carrier Lane after a device reset (R1, R16). -/
def Lane.reset : Lane :=
  { outCounter := 0, records := [], nf := none, modemTable := none, handover := [], framesSent := 0, framesReceived := 0,
    discardedOff := 0, unlocked := 0, checkFailures := 0, badStatus := 0, unreadable := 0, formatErrors := 0 }

/-- Carrier State Control after a device reset (R17, R19, R20, R21, R38). -/
def Control.reset : Control :=
  { state := .off, freshness := 0, acqCount := 0, na := 4, tf := 24, recovery := .auto, mode := .adaptive, fixedProfile := 0,
    rxFloor := 0, rxCeiling := 11, txCeiling := 11, acquisitions := 0, fallbacks := 0, recoveries := 0, ladderMismatches := 0 }

/-- A Quality Estimator after a device reset (R39, R40, R43, R55). -/
def Estimator.reset : Estimator :=
  { level := 0, slope := 0, predicted := 0, quality := 0, firstSample := true, curve := Config.curveReset,
    pb := 16, ad := 1, au := 4, bs := 3, lp := 8 }

/-- A ladder entry after a device reset (R58). -/
def LadderEntry.zero : LadderEntry := ⟨0, 0, 0, 0, 0⟩

/-- A Profile Ladder after a device reset (R58). -/
def Ladder.reset : Ladder :=
  { length := 0, entries := Vector.replicate 12 LadderEntry.zero, code := 0, locked := false }

/-- A Profile Requester after a device reset (R65, R66, R77, R85). -/
def Requester.reset : Requester :=
  { inbound := 0, state := .idle, decidedLo := 0, tag := 0, dwell := 0, holdOff := 0, timer := 0, nu := 50, th := 200, gu := -256, tr := 16,
    stepIssued := 0, urgentIssued := 0, supersedes := 0, upshifts := 0, downshifts := 0, refusals := 0, busyAnswers := 0,
    timeouts := 0, mismatches := 0, unsolicited := 0 }

/-- A Switch Scheduler after a device reset (R86, R95). -/
def Scheduler.reset : Scheduler :=
  { outbound := 0, scheduled := none, forced := none, answer := none, ds := 3, requestsTaken := 0, acceptSent := 0,
    refuseSent := 0, busySent := 0, scheduledMade := 0, forcedMade := 0 }

/-- What the Segment Distributor holds for a carrier after a device reset (R120, R132). -/
def Distributor.reset : Distributor :=
  { request := none, dataFills := 0, idleFills := 0, patternFills := 0, dataSegments := 0, idleSegments := 0 }

/-- A cleared result row (R149). -/
def ResultRow.zero : ResultRow := ⟨0, 0, 0⟩

/-- A Test Unit after a device reset (R149). -/
def TestUnit.reset : TestUnit :=
  { rows := Vector.replicate 12 ResultRow.zero, lostFrames := 0, nonTest := 0, discarded := 0, sweepActive := false,
    sweepStep := 0, sweepCount := 0, dw := 2000 }

/-- One carrier after a device reset. -/
def Carrier.reset : Carrier :=
  { lane := Lane.reset, control := Control.reset, est := Estimator.reset, ladder := Ladder.reset, req := Requester.reset,
    sched := Scheduler.reset, dist := Distributor.reset, test := TestUnit.reset }

/-- The Site Port after a device reset (R104). -/
def SitePort.reset : SitePort :=
  { fcsErrors := 0, shortFrames := 0, longFrames := 0, accepted := 0, diverted := 0, egressDelivered := 0 }

/-- A Flow Table entry after a device reset: invalid, TAGGED, CLASS, every other field 0 (R106). -/
def FlowEntry.zero : FlowEntry :=
  { valid := false, tagMatch := .tagged, vlanLow := 0, vlanHigh := 0, prioLow := 0, prioHigh := 0, action := .cls, cls := 0,
    hits := 0 }

/-- The Flow Classifier after a device reset (R106, R119). -/
def Classifier.reset : Classifier :=
  { table := Vector.replicate 64 FlowEntry.zero, defaultClass := 3, drops := 0, defaultFrames := 0 }

/-- Cleared class counters (R119). -/
def ClassCounters.zero : ClassCounters := ⟨0, 0, 0, 0, 0⟩

/-- Class Admission after a device reset (R110 to R113, R119). -/
def Admission.reset : Admission :=
  { contributions := Quad.all 0, shedTable := Quad.all 0, shed := Quad.all false, limits := Config.limitReset,
    counters := Quad.all ClassCounters.zero }

/-- The Class Queues and the Distributor's device state after a device reset (R113, R120, R132). -/
def Queues.reset : Queues :=
  { frames := Quad.all [], occupancy := Quad.all 0, cursor := none, seq := 0, framesStarted := 0 }

/-- The Resequencer after a device reset (R133, R134, R148). -/
def Reseq.reset : Reseq :=
  { synced := false, expected := 0, window := [], gap := none, lateRun := 0, context := none, tg := 40, k := 64, stored := 0,
    duplicates := 0, late := 0, unsyncedDiscards := 0, resyncs := 0, lateResyncs := 0, resyncLosses := 0,
    resyncFrameDiscards := 0, marksTaken := 0, marksIgnored := 0, gapExpiries := 0, gapPositionsLost := 0, lostDelivered := 0,
    partialDiscards := 0, oversizeDiscards := 0, orphans := 0, lossDiscards := 0, framesToEgress := 0,
    framesToManagement := 0 }

/-- History Capture after a device reset (R160). -/
def History.reset : History :=
  { state := .idle, carrier := 0, trigger := .immediate, post := 0, ring := [], postRecords := 0, lastFn := none,
    cause := .normal }

/-- The Management Agent after a device reset, but for the address-select value sampled (R168, R169, R183). -/
def Agent.reset : Agent :=
  { typeCode := Config.typeCodeReset, addr := 0, queue := [], execution := none, reply := none, queuedSite := 0,
    queuedRadio := 0, queueDrops := 0, malformed := 0, ignored := 0, commandsRun := 0, commandsRefused := 0,
    responsesSent := 0 }

/-- The Alert Unit after a device reset (R180, R182). -/
def Alert.reset : Alert := { latches := 0, mask := 0 }

/-- The machine right after a device reset with the RESET line released. DESIGN CHOICE (notes/assumptions/1.md): the
strapped levels of ADDR0 to ADDR5, which the spec leaves to the board, are all low. -/
def State.reset : State :=
  { carriers := Quad.all Carrier.reset, site := SitePort.reset, classifier := Classifier.reset, admission := Admission.reset,
    queues := Queues.reset, filling := none, reseq := Reseq.reset, history := History.reset, agent := Agent.reset, alert := Alert.reset,
    pins := { resetLow := false, addr := 0 }, out := { egress := [], modem := Quad.all [] }, drawPlan := [],
    pending := [] }

end Sys2Proof.Machine
end

