-- ==== Sys2Proof/Machine/Operands.lean ====
section
/-! DEFINITION. Numbers, bytes and layouts: saturating counters, clamping, byte order, the adaptation header, the segment header
and the command entries of a management frame (Chapter 13), read and written in one place each. -/

namespace Sys2Proof.Machine

/-! ### Counters and ranges -/

/-- A counter increased by an amount: it holds at 4,294,967,295 (R16 and the counter rule of each chapter). -/
def bumpBy (c n : Nat) : Nat := min (c + n) Config.counterMax

/-- A counter increased by one. -/
def bump (c : Nat) : Nat := bumpBy c 1

/-- A value clamped to a range (00_scope.md, Conventions). -/
def clampInt (lo hi v : Int) : Int := max lo (min v hi)

/-- The floor of a quotient by 2 to the power `n` (R40: a shift of n divides by 2 to the power n). -/
def floorShift (v : Int) (n : Nat) : Int := v / (2 ^ n : Nat)

/-- OK, or CLAMPED when clamping changed a value (R172). -/
def okOrClamped (clamped : Bool) : Result := if clamped then .clamped else .ok

/-! ### Byte order: most significant byte first (Chapter 13) -/

/-- A natural number as two bytes. -/
def be16 (n : Nat) : List Byte := [BitVec.ofNat 8 (n / 256), BitVec.ofNat 8 n]

/-- A natural number as four bytes. -/
def be32 (n : Nat) : List Byte :=
  [BitVec.ofNat 8 (n / 16777216), BitVec.ofNat 8 (n / 65536), BitVec.ofNat 8 (n / 256), BitVec.ofNat 8 n]

/-- A signed number as two bytes, two's complement. -/
def signed16 (v : Int) : List Byte := be16 (BitVec.ofInt 16 v).toNat

/-- A signed number as four bytes, two's complement. -/
def signed32 (v : Int) : List Byte := be32 (BitVec.ofInt 32 v).toNat

/-- One byte of a number. -/
def byteOf (n : Nat) : List Byte := [BitVec.ofNat 8 n]

/-- One byte of a mark or flag: 1 when set. -/
def flagByte (b : Bool) : List Byte := [if b then 1#8 else 0#8]

/-- Two bytes read as a 16-bit value. -/
def word16 (hi lo : Byte) : BitVec 16 := hi ++ lo

/-- Four bytes read as a 32-bit value. -/
def word32 (a b c d : Byte) : BitVec 32 := a ++ b ++ c ++ d

/-- The byte at an index, 0 past the end. -/
def byteAt (l : List Byte) (i : Nat) : Byte := l.getD i 0#8

/-- The first `n` bytes from an index. -/
def bytesFrom (l : List Byte) (i n : Nat) : List Byte := (l.drop i).take n

/-- A list cut or filled with bytes of 0 to a length. -/
def padTo (n : Nat) (l : List Byte) : List Byte := l ++ List.replicate (n - l.length) 0#8

/-! ### Fixed tables -/

/-- The entry of a table at an index, a default past the end. -/
def tableAt {α : Type} {n : Nat} (v : Vector α n) (i : Nat) (d : α) : α := (v[i]?).getD d

/-- Store values at consecutive positions from a start. -/
def storeFrom {α : Type} {n : Nat} (v : Vector α n) (start : Nat) : List α → Vector α n
  | [] => v
  | x :: xs => storeFrom (v.setIfInBounds start x) (start + 1) xs

/-- Store numbers at consecutive positions of a table of four positions. -/
def storeQuad (q : Quad Nat) (start : Nat) : List Nat → Quad Nat
  | [] => q
  | x :: xs =>
    let q' := if h : start < 4 then q.set ⟨start, h⟩ x else q
    storeQuad q' (start + 1) xs

/-- The carrier that a carrier number names; none outside 0 to 3 (R176 to R178). -/
def carrierOf (b : Byte) : Option CarrierId := if h : b.toNat < 4 then some ⟨b.toNat, h⟩ else none

/-! ### The adaptation header (section 13.1) -/

/-- The fields of the header as its bits hold them. -/
structure HeaderBits where
  status : BitVec 4
  fn : FrameNo
  profile : BitVec 4
  target : BitVec 4
  ladderCode : Byte
  kind : BitVec 2
  reqTag : Tag
  verdict : BitVec 2
  ansTag : Tag
  granted : BitVec 4
  sf : FrameNo
  firstSeq : SeqNo
  dataCount : BitVec 10
  deriving DecidableEq, Repr

/-- Bytes 0 to 11 of a header (R191): every field in its bits, the unnamed bits and byte 11 sent as 0. -/
def headerBody (h : HeaderBits) : List Byte :=
  [ h.status ++ h.fn.extractLsb' 8 4,
    h.fn.extractLsb' 0 8,
    h.profile ++ h.target,
    h.ladderCode,
    h.kind ++ h.reqTag ++ h.verdict ++ h.ansTag,
    h.granted ++ h.sf.extractLsb' 8 4,
    h.sf.extractLsb' 0 8,
    h.firstSeq.extractLsb' 8 8,
    h.firstSeq.extractLsb' 0 8,
    0#6 ++ h.dataCount.extractLsb' 8 2,
    h.dataCount.extractLsb' 0 8,
    0#8 ]

/-- The fields read from their bits; bits 15 to 10 of bytes 9 and 10, and byte 11, are not read (R191). -/
def readHeaderBody (l : List Byte) : HeaderBits :=
  let b := byteAt l
  { status := (b 0).extractLsb' 4 4
    fn := (b 0).extractLsb' 0 4 ++ b 1
    profile := (b 2).extractLsb' 4 4
    target := (b 2).extractLsb' 0 4
    ladderCode := b 3
    kind := (b 4).extractLsb' 6 2
    reqTag := (b 4).extractLsb' 4 2
    verdict := (b 4).extractLsb' 2 2
    ansTag := (b 4).extractLsb' 0 2
    granted := (b 5).extractLsb' 4 4
    sf := (b 5).extractLsb' 0 4 ++ b 6
    firstSeq := b 7 ++ b 8
    dataCount := (b 9).extractLsb' 0 2 ++ b 10 }

/-- The status codes of the header, and of the status report, where OFF is 0 (sections 13.1 and 13.4). -/
def statusCode (st : CarrierState) : Nat :=
  match st with
  | .off => 0
  | .acquire => 1
  | .run => 2
  | .fallback => 3
  | .hold => 4
  | .test => 5

/-- The status that a status code of a header names; none for 0 and 6 to 15 (R12, R191). -/
def statusOf (b : BitVec 4) : Option CarrierState :=
  match b.toNat with
  | 1 => some .acquire
  | 2 => some .run
  | 3 => some .fallback
  | 4 => some .hold
  | 5 => some .test
  | _ => none

/-- The request kind codes (section 13.1). -/
def kindCode (k : Kind) : Nat :=
  match k with
  | .step => 1
  | .urgent => 2

/-- The request kind a code names; NONE for 0 and for the unused code 3 (R13, R191). -/
def kindOf (b : BitVec 2) : Option Kind :=
  match b.toNat with
  | 1 => some .step
  | 2 => some .urgent
  | _ => none

/-- The answer verdict codes (section 13.1). -/
def verdictCode (v : Verdict) : Nat :=
  match v with
  | .accept _ _ => 1
  | .refuse => 2
  | .busy => 3

/-- A profile field taken as 0 to 11: 12 to 15 are taken as 11 (R13). -/
def reduceProfile (b : BitVec 4) : Nat := min b.toNat 11

/-- A good header as the blocks of the carrier receive it, its values reduced (R13, R14). -/
structure RxHeader where
  status : CarrierState
  fn : FrameNo
  profile : Nat
  /-- Set when the payload is unreadable: the profile named is 12 to 15, or the local ladder does not hold it (R13). -/
  unreadable : Bool
  ladderCode : Byte
  /-- The request kind, tag and target; none for NONE. -/
  request : Option Request
  reqTag : Tag
  /-- The answer verdict; none for NONE. -/
  verdict : Option Verdict
  ansTag : Tag
  firstSeq : SeqNo
  dataCount : Nat
  deriving DecidableEq, Repr

/-- The answer verdict of a header, with the granted profile and SF for ACCEPT (R8, R13). -/
def verdictOf (h : HeaderBits) : Option Verdict :=
  match h.verdict.toNat with
  | 1 => some (.accept (reduceProfile h.granted) h.sf)
  | 2 => some .refuse
  | 3 => some .busy
  | _ => none

/-- The values of a good header with status `st`, reduced against a local ladder of length `len` (R13). -/
def reduceHeader (len : Nat) (st : CarrierState) (h : HeaderBits) : RxHeader :=
  { status := st
    fn := h.fn
    profile := reduceProfile h.profile
    unreadable := decide (12 ≤ h.profile.toNat) || decide (len ≤ h.profile.toNat)
    ladderCode := h.ladderCode
    request := (kindOf h.kind).map (fun k => ⟨k, reduceProfile h.target⟩)
    reqTag := h.reqTag
    verdict := verdictOf h
    ansTag := h.ansTag
    firstSeq := h.firstSeq
    dataCount := h.dataCount.toNat }

/-- A test frame: a good header with status TEST and data count 0 (R15, R152). -/
def RxHeader.isTest (h : RxHeader) : Bool := decide (h.status = .test) && decide (h.dataCount = 0)

/-- The reached-test on frame numbers: A minus B, modulo 4096, is less than 2048 (R5). -/
def reached (a b : FrameNo) : Bool := decide ((a - b).toNat < 2048)

/-- The distance from B to A of sequence numbers: A minus B, modulo 65,536 (00_scope.md, Conventions). -/
def distance (a b : SeqNo) : Nat := (a - b).toNat

/-! ### Segments (section 13.2) -/

/-- An idle segment (section 1.4). -/
def idleSegment : Segment :=
  { seq := 0, first := false, last := false, idle := true, count := 0, payload := List.replicate 64 0#8 }

/-- The 68 bytes of a segment (section 13.2). -/
def segmentBytes (g : Segment) : List Byte :=
  [ g.seq.extractLsb' 8 8, g.seq.extractLsb' 0 8,
    BitVec.ofBool g.first ++ BitVec.ofBool g.last ++ BitVec.ofBool g.idle ++ 0#5,
    BitVec.ofNat 8 g.count ] ++ padTo 64 g.payload

/-- A segment read from the 68 bytes of a slot; bits 4 to 0 of byte 2 are not read (section 13.2). -/
def readSegment (l : List Byte) : Segment :=
  { seq := word16 (byteAt l 0) (byteAt l 1)
    first := (byteAt l 2).getLsbD 7
    last := (byteAt l 2).getLsbD 6
    idle := (byteAt l 2).getLsbD 5
    count := (byteAt l 3).toNat
    payload := bytesFrom l 4 64 }

/-- A data segment is well formed when IDLE is clear and its byte count is between 1 and 64 (R15). -/
def Segment.wellFormed (g : Segment) : Bool := !g.idle && decide (1 ≤ g.count) && decide (g.count ≤ 64)

/-! ### Command entries (section 13.3) -/

/-- Walk `n` command entries by their argument lengths; none when one runs past the end (R170 check 4). What follows the
last one is ignored. -/
def readCommands : Nat → List Byte → Option (List RawCommand)
  | 0, _ => some []
  | n + 1, code :: tag :: hi :: lo :: rest =>
    let len := (word16 hi lo).toNat
    if rest.length < len then none
    else (readCommands n (rest.drop len)).map (fun l => ⟨code, tag, rest.take len⟩ :: l)
  | _ + 1, _ => none

/-- Bytes read in pairs, most significant first. -/
def readWords : List Byte → List (BitVec 16)
  | a :: b :: rest => word16 a b :: readWords rest
  | _ => []

/-- LADDER entries of 8 bytes each. -/
def readLadderEntries : List Byte → List LadderEntryRaw
  | m :: r :: c1 :: c0 :: e1 :: e0 :: h1 :: h0 :: rest =>
    ⟨m, r, word16 c1 c0, word16 e1 e0, word16 h1 h0⟩ :: readLadderEntries rest
  | _ => []

/-- FLOW entries of 10 bytes each. -/
def readFlowEntries : List Byte → List FlowEntryRaw
  | v :: t :: l1 :: l0 :: h1 :: h0 :: p0 :: p1 :: a :: c :: rest =>
    ⟨v, t, word16 l1 l0, word16 h1 h0, p0, p1, a, c⟩ :: readFlowEntries rest
  | _ => []

/-- The parameter that a parameter code names, 1 to 24 in the order of R177 (section 13.3). -/
def paramOf (b : Byte) : Option Param :=
  match b.toNat with
  | 1 => some .acquisitionCountLimit
  | 2 => some .freshnessLimit
  | 3 => some .recovery
  | 4 => some .adaptationMode
  | 5 => some .fixedProfile
  | 6 => some .rxFloor
  | 7 => some .rxCeiling
  | 8 => some .txCeiling
  | 9 => some .blockPenalty
  | 10 => some .fallShift
  | 11 => some .riseShift
  | 12 => some .slopeShift
  | 13 => some .lookahead
  | 14 => some .upshiftDwell
  | 15 => some .holdOff
  | 16 => some .urgentSlope
  | 17 => some .requestTime
  | 18 => some .stepDelay
  | 19 => some .sweepDwell
  | 20 => some .defaultClass
  | 21 => some .gapTime
  | 22 => some .lateRunLimit
  | 23 => some .managementTypeCode
  | 24 => some .alertMask
  | _ => none

/-- The trigger that a trigger code names (section 13.3). -/
def triggerOf (b : Byte) : Option Trigger :=
  match b.toNat with
  | 1 => some .immediate
  | 2 => some .anyDownshift
  | 3 => some .urgent
  | 4 => some .fallback
  | 5 => some .mismatch
  | _ => none

/-- The trigger codes (section 13.3). -/
def triggerCode (t : Trigger) : Nat :=
  match t with
  | .immediate => 1
  | .anyDownshift => 2
  | .urgent => 3
  | .fallback => 4
  | .mismatch => 5

/-- The result codes (section 13.3). -/
def resultCode (r : Result) : Nat :=
  match r with
  | .ok => 0
  | .clamped => 1
  | .range => 2
  | .locked => 3
  | .busy => 4
  | .state => 5
  | .ladder => 6
  | .unknown => 7
  | .length => 8
  | .tooLong => 9

/-- A response entry: code, tag, result, data length and data (section 13.3). -/
def entryBytes (e : ReplyEntry) : List Byte :=
  [e.code, e.tag] ++ byteOf (resultCode e.result) ++ be16 e.data.length ++ e.data

/-- The table codes that name a table (1 to 7), and the bytes of one position as TABLE_READ returns it (section 13.3). Position 12
of TEST_RESULTS returns 8 bytes. -/
def readWidth (table : Nat) : Nat :=
  match table with
  | 1 => 8
  | 2 => 1
  | 3 => 2
  | 4 => 14
  | 5 => 2
  | 6 => 2
  | 7 => 12
  | _ => 0

/-- The bytes of one entry of a written table, by table code (section 13.3). -/
def writeWidth (table : Nat) : Nat :=
  match table with
  | 1 => 8
  | 2 => 1
  | 3 => 2
  | 4 => 10
  | 5 => 2
  | 6 => 2
  | _ => 0

/-- A TABLE_WRITE of known table whose list is a whole number of entries (R176). -/
def decodeTableWrite (table : Nat) (carrier start : Byte) (list : List Byte) : Except Result Command :=
  match table with
  | 1 => .ok (.writeLadder carrier start (readLadderEntries list))
  | 2 => .ok (.writeLadderLength carrier start list)
  | 3 => .ok (.writeCurve carrier start (readWords list))
  | 4 => .ok (.writeFlow start (readFlowEntries list))
  | 5 => .ok (.writeShed start (readWords list))
  | 6 => .ok (.writeClassLimit start (readWords list))
  | _ => .error .unknown

/-- A CARRIER command of the right length (R178). The carrier number and the action are both refused with RANGE. -/
def decodeCarrier (carrier action profile : Byte) : Except Result Command :=
  match action.toNat with
  | 1 => .ok (.enable carrier)
  | 2 => .ok (.disable carrier)
  | 3 => .ok (.restart carrier)
  | 4 => .ok (.testEnter carrier profile)
  | 5 => .ok (.testLeave carrier)
  | 6 => .ok (.clearHold carrier)
  | _ => .error .range

/-- A CAPTURE command: each action has its own argument length, and an unknown action of any length of at least 1 is refused
with RANGE (R178, R192). -/
def decodeCapture (args : List Byte) : Except Result Command :=
  match args with
  | [] => .error .length
  | a :: rest =>
    match a.toNat, rest with
    | 1, [c, t, p1, p0] => .ok (.captureArm c t (word16 p1 p0))
    | 1, _ => .error .length
    | 2, [] => .ok .captureCancel
    | 2, _ => .error .length
    | 3, [o1, o0, n] => .ok (.captureRead (word16 o1 o0) n)
    | 3, _ => .error .length
    | _, _ => .error .range

/-- A command read from its code and argument bytes: checks 1 and 2 of R171, and the codes that R175, R178 and R179 refuse
with RANGE. -/
def decodeCommand (code : Byte) (args : List Byte) : Except Result Command :=
  match code.toNat with
  | 1 =>
    match args with
    | [clear] => .ok (.status clear)
    | _ => .error .length
  | 2 =>
    match args with
    | [] => .error .length
    | t :: rest =>
      if writeWidth t.toNat = 0 then .error .unknown
      else
        match rest with
        | c :: p :: list =>
          if list.length % writeWidth t.toNat = 0 then decodeTableWrite t.toNat c p list else .error .length
        | _ => .error .length
  | 3 =>
    match args with
    | [] => .error .length
    | t :: rest =>
      if readWidth t.toNat = 0 then .error .unknown
      else
        match rest with
        | [c, p, n] => .ok (.tableRead t c p n)
        | _ => .error .length
  | 4 =>
    match args with
    | [] => .error .length
    | q :: rest =>
      match paramOf q, rest with
      | none, _ => .error .unknown
      | some p, [c, v3, v2, v1, v0] => .ok (.set p c (word32 v3 v2 v1 v0))
      | some _, _ => .error .length
  | 5 =>
    match args with
    | [] => .error .length
    | q :: rest =>
      match paramOf q, rest with
      | none, _ => .error .unknown
      | some _, [c] => .ok (.get q c)
      | some _, _ => .error .length
  | 6 =>
    match args with
    | [c, a, p] => decodeCarrier c a p
    | _ => .error .length
  | 7 =>
    match args with
    | [c, p] => .ok (.sweep c p none)
    | [c, p, d1, d0] => .ok (.sweep c p (some (word16 d1 d0)))
    | _ => .error .length
  | 8 => decodeCapture args
  | 9 =>
    match args with
    | [m3, m2, m1, m0] => .ok (.latchClear (word32 m3 m2 m1 m0))
    | _ => .error .length
  | 10 =>
    match args with
    | [scope] =>
      match scope.toNat with
      | 1 => .ok .resetTraffic
      | 2 => .ok .resetDevice
      | _ => .error .range
    | _ => .error .length
  | _ => .error .unknown

end Sys2Proof.Machine
end

