-- ==== Sys2Proof/Machine/Check.lean ====
section
/-! DEFINITION. The check values of section 13.6 and the test pattern of R150: three bitwise remainders and one shift register. -/

namespace Sys2Proof.Machine

/-- One data bit of the header check value: feedback is register bit 15 exclusive-or the data bit, the register shifts left, and
on feedback it is exclusive-ored with 0x1021. -/
def crc16Bit (r : BitVec 16) (d : Bool) : BitVec 16 :=
  if xor (r.getLsbD 15) d then (r <<< 1) ^^^ 0x1021#16 else r <<< 1

/-- One data bit of the ladder code: bit 7 is the top bit and 0x07 the value exclusive-ored. -/
def crc8Bit (r : BitVec 8) (d : Bool) : BitVec 8 :=
  if xor (r.getLsbD 7) d then (r <<< 1) ^^^ 0x07#8 else r <<< 1

/-- One data bit of the frame check sequence: feedback is register bit 0 exclusive-or the data bit, the register shifts right, and
on feedback it is exclusive-ored with 0xEDB88320. -/
def crc32Bit (r : BitVec 32) (d : Bool) : BitVec 32 :=
  if xor (r.getLsbD 0) d then (r >>> 1) ^^^ 0xEDB88320#32 else r >>> 1

/-- The bits of a byte, most significant first. -/
def bitsMsbFirst (b : Byte) : List Bool :=
  [b.getLsbD 7, b.getLsbD 6, b.getLsbD 5, b.getLsbD 4, b.getLsbD 3, b.getLsbD 2, b.getLsbD 1, b.getLsbD 0]

/-- The bits of a byte, least significant first. -/
def bitsLsbFirst (b : Byte) : List Bool :=
  [b.getLsbD 0, b.getLsbD 1, b.getLsbD 2, b.getLsbD 3, b.getLsbD 4, b.getLsbD 5, b.getLsbD 6, b.getLsbD 7]

/-- The 16-bit check value of a run of bytes: initial value all ones, no final inversion (R9). -/
def crc16 (l : List Byte) : BitVec 16 :=
  l.foldl (fun r b => (bitsMsbFirst b).foldl crc16Bit r) 0xFFFF#16

/-- The 8-bit check value of a run of bytes: initial value 0 (R10). -/
def crc8 (l : List Byte) : BitVec 8 :=
  l.foldl (fun r b => (bitsMsbFirst b).foldl crc8Bit r) 0x00#8

/-- The 32-bit frame check sequence of a run of bytes: initial value all ones, final inversion (section 13.6). -/
def crc32 (l : List Byte) : BitVec 32 :=
  ~~~ (l.foldl (fun r b => (bitsLsbFirst b).foldl crc32Bit r) 0xFFFFFFFF#32)

/-- The four bytes that close a frame: the frame check sequence, least significant byte first (section 13.6). -/
def fcsBytes (l : List Byte) : List Byte :=
  let r := crc32 l
  [r.extractLsb' 0 8, r.extractLsb' 8 8, r.extractLsb' 16 8, r.extractLsb' 24 8]

/-- The frame check sequence computed over a frame equals the one received (R101 check 1). A frame too short to hold
the four bytes fails: DEDUCED (notes/assumptions/16.md). -/
def fcsGood (f : Frame) : Bool :=
  decide (4 ≤ f.length) && decide (f.drop (f.length - 4) = fcsBytes (f.take (f.length - 4)))

/-- A whole header of 14 bytes: the body and its check value, high byte first (R9, R191). -/
def headerBytes (h : HeaderBits) : List Byte :=
  let body := headerBody h
  let c := crc16 body
  body ++ [c.extractLsb' 8 8, c.extractLsb' 0 8]

/-- The check value received in bytes 12 and 13 equals the one computed over bytes 0 to 11 (R12 condition 2). -/
def headerCheckGood (l : List Byte) : Bool :=
  decide (crc16 (l.take 12) = word16 (byteAt l 12) (byteAt l 13))

/-- The bytes of one ladder entry that the ladder code covers (R10). -/
def codedEntry (e : LadderEntry) : List Byte := byteOf e.modulation ++ byteOf e.rate ++ be16 e.capacity

/-- The ladder code of a length and its entries (R10, R63). -/
def ladderCode (length : Nat) (entries : List LadderEntry) : BitVec 8 :=
  crc8 (byteOf length ++ (entries.take length).flatMap codedEntry)

/-! ### The test pattern (R150) -/

/-- One pattern bit: stage 15 exclusive-or stage 14, which also enters stage 1. Stage n is bit n - 1. -/
def patternBit (r : BitVec 15) : Bool := xor (r.getLsbD 14) (r.getLsbD 13)

/-- The register after one pattern bit. -/
def patternNext (r : BitVec 15) : BitVec 15 := (r <<< 1) ||| (BitVec.ofBool (patternBit r)).setWidth 15

/-- `n` pattern bits, shifted into a byte most significant first, and the register after them. -/
def patternBits : Nat → BitVec 15 → Byte → Byte × BitVec 15
  | 0, r, acc => (acc, r)
  | n + 1, r, acc => patternBits n (patternNext r) ((acc <<< 1) ||| (BitVec.ofBool (patternBit r)).setWidth 8)

/-- `n` pattern bytes from a register. -/
def patternFrom : Nat → BitVec 15 → List Byte
  | 0, _ => []
  | n + 1, r =>
    let p := patternBits 8 r 0#8
    p.1 :: patternFrom n p.2

/-- The first `n` bytes of the test pattern: every stage set to 1 at the first payload bit (R150). -/
def patternBytes (n : Nat) : List Byte := patternFrom n (BitVec.allOnes 15)

/-- The number of bits that are set in a byte. -/
def popcount (b : Byte) : Nat := (bitsMsbFirst b).count true

/-- The number of bits in which two runs of bytes differ, over the length of the second; bytes missing from the first count as
eight differing bits each. -/
def bitDifferences : List Byte → List Byte → Nat
  | _, [] => 0
  | [], _ :: qs => 8 + bitDifferences [] qs
  | a :: as, q :: qs => popcount (a ^^^ q) + bitDifferences as qs

/-- The bit errors of a test frame over the slots that are left, against the pattern bytes that are left (R152): the differing bits
of a valid slot, all 544 bits of a slot that is not valid. DEDUCED (notes/assumptions/17.md): a slot that was not handed over counts as
one that is not valid, and a slot beyond the capacity is not looked at. -/
def testBitErrors : Nat → List InboundSlot → List Byte → Nat
  | 0, _, _ => 0
  | n + 1, [], pat => 544 + testBitErrors n [] (pat.drop 68)
  | n + 1, sl :: rest, pat =>
    (if sl.valid then bitDifferences sl.bytes (pat.take 68) else 544) + testBitErrors n rest (pat.drop 68)

/-- The payload bytes of a fill record as the modem sends them (R6, R151, section 13.2). -/
def payloadBytes (p : Payload) : List Byte :=
  match p with
  | .segments slots => slots.flatMap segmentBytes
  | .pattern slots => patternBytes (slots * 68)

end Sys2Proof.Machine
end

