-- ==== Sys2Proof/Machine/Flags.lean ====
section
/-! DEFINITION. The latches of the Alert Unit, the alert mask and the ALERT line (section 11.6). -/

namespace Sys2Proof.Machine

/-- The 21 latches (R180). -/
inductive Latch where
  | urgent (c : CarrierId)
  | fallback (c : CarrierId)
  | mismatch (c : CarrierId)
  | ladderMismatch (c : CarrierId)
  | shed
  | reseqLoss
  | sweepDone
  | captureDone
  | mgmtDrop
  deriving DecidableEq, Repr

/-- The bit of a latch: 4c to 4c + 3 for carrier c, 16 to 20 for the device (section 13.3). -/
def Latch.bit (l : Latch) : Nat :=
  match l with
  | .urgent c => 4 * c.val
  | .fallback c => 4 * c.val + 1
  | .mismatch c => 4 * c.val + 2
  | .ladderMismatch c => 4 * c.val + 3
  | .shed => 16
  | .reseqLoss => 17
  | .sweepDone => 18
  | .captureDone => 19
  | .mgmtDrop => 20

/-- Whether a latch is set. -/
def Alert.isSet (a : Alert) (l : Latch) : Bool := a.latches.getLsbD l.bit

/-- Set a latch; a latch already set stays set (R180). -/
def Alert.raise (a : Alert) (l : Latch) : Alert := { a with latches := a.latches ||| BitVec.twoPow 21 l.bit }

/-- Clear the latches whose mask bits are set; bits 21 to 31 of the mask name no latch (R181). -/
def Alert.clear (a : Alert) (mask : BitVec 32) : Alert := { a with latches := a.latches &&& ~~~ (mask.setWidth 21) }

/-- The ALERT line is asserted while at least one latch is both set and enabled (R182). -/
def Alert.line (a : Alert) : Bool := decide (a.latches &&& a.mask ≠ 0#21)

/-- An event signals its latch (R180). -/
def State.signal (s : State) (l : Latch) : State := { s with alert := s.alert.raise l }

/-- An event signals its latch when a condition holds. -/
def State.signalIf (s : State) (b : Bool) (l : Latch) : State := if b then s.signal l else s

/-- The state of the ALERT line (R182). -/
def State.alertAsserted (s : State) : Bool := s.alert.line

end Sys2Proof.Machine
end

