-- ==== Sys2Proof/Machine/Ops.lean ====
section
/-! DEFINITION. The named operations that several blocks share: reading and changing one carrier, effective windows (R36),
contributions and shedding (R37, R110 to R112), admission (R114), forced switches (R93), abandoning a request, entry to RUN
(R22), the start clearing (R27), the management input queue (R169), egress (R103) and the device reset. -/

namespace Sys2Proof.Machine

/-! ### One carrier -/

/-- The carrier with a number. -/
def State.car (s : State) (c : CarrierId) : Carrier := s.carriers.get c

/-- Replace one carrier. -/
def State.setCar (s : State) (c : CarrierId) (k : Carrier) : State := { s with carriers := s.carriers.set c k }

/-- Change one carrier. -/
def State.updCar (s : State) (c : CarrierId) (f : Carrier → Carrier) : State := s.setCar c (f (s.car c))

/-- Run an event unless the RESET line is held low: while it is low the part stays in its device reset (00_scope.md, Pins; R182).
DEDUCED (notes/assumptions/10.md). -/
def State.unlessHeld (s : State) (f : State → State) : Answer State :=
  .next (if s.pins.resetLow then s else f s)

/-! ### The ladder and the effective windows -/

/-- The stored ladder entry at an index (R58). -/
def Ladder.at (l : Ladder) (i : Nat) : LadderEntry := tableAt l.entries i LadderEntry.zero

/-- The hold threshold that decisions use: 0 for entry 0, whatever is stored (R59). -/
def Ladder.holdAt (l : Ladder) (i : Nat) : Nat := if i = 0 then 0 else (l.at i).hold

/-- Recompute the ladder code from the stored length and entries (R63). -/
def Ladder.recode (l : Ladder) : Ladder := { l with code := ladderCode l.length l.entries.toList }

/-- The lower end of the effective rx window (R36). -/
def Carrier.rxLow (k : Carrier) : Nat := min k.control.rxFloor (k.ladder.length - 1)

/-- The upper end of the effective rx window (R36). -/
def Carrier.rxHigh (k : Carrier) : Nat := min k.control.rxCeiling (k.ladder.length - 1)

/-- The effective tx ceiling (R36). -/
def Carrier.txCeil (k : Carrier) : Nat := min k.control.txCeiling (k.ladder.length - 1)

/-- Whether a carrier carries data: RUN or HOLD (R18). -/
def CarrierState.carries (st : CarrierState) : Bool :=
  match st with
  | .run => true
  | .hold => true
  | _ => false

/-! ### Aggregate capacity and shedding -/

/-- A carrier's contribution: the capacity of its outbound profile in RUN and HOLD, 0 in every other state (R37). -/
def Carrier.contribution (k : Carrier) : Nat :=
  if k.control.state.carries then (k.ladder.at k.sched.outbound).capacity else 0

/-- The aggregate capacity A, the sum of the four contributions signalled (R110). -/
def Admission.aggregate (a : Admission) : Nat := a.contributions.sum

/-- Whether a class is shed after an evaluation (R112). -/
def shedNext (shed : Bool) (a amin ah : Nat) : Bool :=
  if shed then decide (a < amin + ah) else decide (a < amin)

/-- One shed evaluation of classes 1 to 3 (R112); class 0 is not part of it. -/
def Admission.evaluate (a : Admission) : Admission :=
  let next (k : ClassId) := shedNext (a.shed.get k) a.aggregate (a.shedTable.get k) (a.shedTable.get 0)
  let entered (k : ClassId) := !a.shed.get k && next k
  let count (k : ClassId) :=
    let n := a.counters.get k
    if entered k then { n with shedEntries := bump n.shedEntries } else n
  { a with
    shed := ⟨a.shed.at0, next 1, next 2, next 3⟩
    counters := ⟨a.counters.at0, count 1, count 2, count 3⟩ }

/-- Whether some class goes from unshed to shed between two shed states. -/
def newlyShed (before after : Quad Bool) : Bool :=
  (!before.at1 && after.at1) || (!before.at2 && after.at2) || (!before.at3 && after.at3)

/-- A shed evaluation with its SHED latch, signalled once when at least one class becomes shed (R112). -/
def State.shedEvaluate (s : State) : State :=
  let a := s.admission.evaluate
  { s with admission := a }.signalIf (newlyShed s.admission.shed a.shed) .shed

/-- The lane signals its carrier's contribution to Class Admission when the value has changed; Class Admission recomputes A and
evaluates the shed state when A changed (R37, R110). -/
def State.signalContribution (s : State) (c : CarrierId) : State :=
  let v := (s.car c).contribution
  if v = s.admission.contributions.get c then s
  else
    let a := { s.admission with contributions := s.admission.contributions.set c v }
    let s' := { s with admission := a }
    if a.aggregate = s.admission.aggregate then s' else s'.shedEvaluate

/-! ### Class queues and admission -/

/-- The slots that a frame of n bytes occupies: ceil(n/64) (R113). -/
def slotCount (f : Frame) : Nat := (f.length + 63) / 64

/-- The free slot count: 16,384 less the four occupancies (R113). -/
def Queues.free (q : Queues) : Nat := Config.bufferSlots - q.occupancy.sum

/-- The class counters with one counter of one class increased. -/
def Admission.count (a : Admission) (k : ClassId) (f : ClassCounters → ClassCounters) : Admission :=
  { a with counters := a.counters.upd k f }

/-- A frame joins the tail of its class queue and takes its slots (R114, R115). -/
def Queues.join (q : Queues) (k : ClassId) (f : Frame) : Queues :=
  { q with
    frames := q.frames.upd k (fun l => l ++ [f])
    occupancy := q.occupancy.upd k (fun n => n + slotCount f) }

/-- Class Admission of a frame with its class: the checks of R114 in their order, the first that fails refusing the frame. -/
def State.admitFrame (s : State) (k : ClassId) (f : Frame) : State :=
  let n := slotCount f
  if s.admission.shed.get k then
    { s with admission := s.admission.count k (fun x => { x with shedDrops := bump x.shedDrops }) }
  else if s.admission.limits.get k < s.queues.occupancy.get k + n then
    { s with admission := s.admission.count k (fun x => { x with limitDrops := bump x.limitDrops }) }
  else if s.queues.free < n then
    { s with admission := s.admission.count k (fun x => { x with bufferDrops := bump x.bufferDrops }) }
  else
    { s with
      admission := s.admission.count k (fun x => { x with admitted := bump x.admitted })
      queues := s.queues.join k f }

/-! ### Requester and Scheduler operations that state changes and commands call -/

/-- An outstanding request is abandoned, uncounted: IDLE, the tag kept, no pending record, the request timer 0 (R23, R31, R76). -/
def Requester.abandon (r : Requester) : Requester := { r with state := .idle, timer := 0 }

/-- The Requester after the start clearing: its settings and counters are kept (R27, R65). -/
def Requester.cleared (r : Requester) : Requester :=
  { r with inbound := 0, state := .idle, decidedLo := 0, tag := 0, dwell := 0, holdOff := 0, timer := 0 }

/-- The Requester's response to a change of mode (R76). -/
def Requester.modeChanged (r : Requester) : Requester := { r.abandon with dwell := 0, holdOff := r.th }

/-- A forced switch is signalled: it replaces any forced switch present and clears any scheduled switch (R93). -/
def Scheduler.force (d : Scheduler) (p : Nat) : Scheduler := { d with forced := some p, scheduled := none }

/-- The Scheduler after the start clearing: Ds and the counters are kept (R27, R86). -/
def Scheduler.cleared (d : Scheduler) : Scheduler :=
  { d with outbound := 0, scheduled := none, forced := none, answer := none }

/-- The estimator cleared: its curve and settings are kept (R39). -/
def Estimator.cleared (e : Estimator) : Estimator :=
  { e with level := 0, slope := 0, predicted := 0, quality := 0, firstSample := true }

/-- A sweep ends without the SWEEP DONE latch; its step and count are kept for reading (R159). -/
def TestUnit.endSweep (t : TestUnit) : TestUnit := { t with sweepActive := false }

/-- The result set is set to 0 (R149). -/
def TestUnit.clearResults (t : TestUnit) : TestUnit :=
  { t with rows := Vector.replicate 12 ResultRow.zero, lostFrames := 0, nonTest := 0 }

/-- A change of carrier state: the acquisition count is set to 0 at every one (R21). -/
def Control.enter (x : Control) (st : CarrierState) : Control := { x with state := st, acqCount := 0 }

/-- Entry to RUN: the dwell counter becomes 0 and the hold-off timer starts at Th; an outstanding request is kept (R22). -/
def Carrier.enterRun (k : Carrier) : Carrier :=
  { k with control := k.control.enter .run, req := { k.req with dwell := 0, holdOff := k.req.th } }

/-- Entry to FALLBACK: the request abandoned and a forced switch to profile 0 signalled, and the entry counted (R23). -/
def Carrier.enterFallback (k : Carrier) : Carrier :=
  { k with
    control := { k.control.enter .fallback with fallbacks := bump k.control.fallbacks }
    req := k.req.abandon
    sched := k.sched.force 0 }

/-- The start clearing with the entry to ACQUIRE (R26 to R28). -/
def Carrier.startClearing (k : Carrier) : Carrier :=
  { k with
    control := { k.control.enter .acquire with freshness := 0 }
    est := k.est.cleared
    req := k.req.cleared
    sched := k.sched.cleared
    test := k.test.endSweep }

/-! ### Egress and the management input queue -/

/-- Site Port egress delivers a frame handed to it (R103). -/
def State.egress (s : State) (f : Frame) : State :=
  { s with
    site := { s.site with egressDelivered := bump s.site.egressDelivered }
    out := { s.out with egress := s.out.egress ++ [f] } }

/-- This part's management address, 02-5A-7E-00-00-nn (R167). -/
def Agent.address (a : Agent) : List Byte := Config.addressStem ++ [a.addr.setWidth 8]

/-- The recognition of a management frame for this part (R167); a frame shorter than 14 bytes has no type field (R146). -/
def Agent.recognises (a : Agent) (f : Frame) : Bool :=
  decide (14 ≤ f.length) && decide (word16 (byteAt f 12) (byteAt f 13) = a.typeCode) &&
    (decide (f.take 6 = a.address) || decide (f.take 6 = Config.broadcast))

/-- A recognised frame joins the input queue, or is dropped with the MGMT DROP latch when the queue holds four (R169). -/
def State.enqueue (s : State) (side : Side) (f : Frame) : State :=
  let a := s.agent
  if Config.inputQueueSize ≤ a.queue.length then
    { s with agent := { a with queueDrops := bump a.queueDrops } }.signal .mgmtDrop
  else
    let a' := { a with queue := a.queue ++ [QueuedFrame.mk side f] }
    { s with
      agent :=
        match side with
        | .site => { a' with queuedSite := bump a.queuedSite }
        | .radio => { a' with queuedRadio := bump a.queuedRadio } }

/-! ### History Capture and the device reset -/

/-- A capture reaches DONE with its end cause, and the CAPTURE DONE latch is signalled (R163, R165). -/
def State.captureEnds (s : State) (cause : EndCause) : State :=
  { s with history := { s.history with state := .done, cause := cause } }.signal .captureDone

/-- A device reset: every block at its device reset value, the address-select value sampled from the pins (R168, R179). The pins
themselves, what has left the part and what waits outside (the commands and their draws) are no state of a block: DESIGN CHOICE
(notes/assumptions/10.md, notes/assumptions/18.md). -/
def State.deviceReset (s : State) : State :=
  { State.reset with
    agent := { Agent.reset with addr := s.pins.addr }
    pins := s.pins
    out := s.out
    drawPlan := s.drawPlan
    pending := s.pending }

end Sys2Proof.Machine
end

