-- ==== Sys2Proof/Machine/Scheduler.lean ====
section
/-! DEFINITION. The Switch Scheduler (sections 5.4 and 5.5): requests taken from headers, the fill rule, a lowered tx ceiling. -/

namespace Sys2Proof.Machine

/-- A header with status ACQUIRE makes the last-answer tag none (R87). -/
def Scheduler.forget (d : Scheduler) (h : RxHeader) : Scheduler :=
  if h.status = .acquire then { d with answer := none } else d

/-- Whether the request fields of a header are taken as a request: a kind other than NONE, and no last-answer tag or a different
one (R88). -/
def Scheduler.isNew (d : Scheduler) (tag : Tag) : Bool :=
  match d.answer with
  | none => true
  | some a => decide (a.tag ≠ tag)

/-- A switch to `g` at frame `sf` is scheduled unless `g` equals the outbound profile (R89). -/
def Scheduler.schedule (d : Scheduler) (g : Nat) (sf : FrameNo) (tag : Tag) : Scheduler :=
  if g = d.outbound then d else { d with scheduled := some { granted := g, sf := sf, tag := tag } }

/-- A taken request is counted and its answer recorded, with the counter of its verdict (R88, R90, R95). -/
def Scheduler.record (d : Scheduler) (tag : Tag) (v : Verdict) : Scheduler :=
  { d with
    answer := some { tag := tag, verdict := v }
    requestsTaken := bump d.requestsTaken
    acceptSent := match v with | .accept _ _ => bump d.acceptSent | _ => d.acceptSent
    refuseSent := match v with | .refuse => bump d.refuseSent | _ => d.refuseSent
    busySent := match v with | .busy => bump d.busySent | _ => d.busySent }

/-- The answer to a request taken, by the first row of R89 that applies; `nf` is the number of the next frame to be filled and
`ceil` the effective tx ceiling. -/
def Scheduler.answerRequest (d : Scheduler) (running : Bool) (nf : FrameNo) (ceil : Nat) (r : Request) (tag : Tag) : Scheduler :=
  if !running then d.record tag .refuse
  else
    let g := min r.target ceil
    match r.kind with
    | .urgent => ({ d with scheduled := none }.schedule g nf tag).record tag (.accept g nf)
    | .step =>
      if d.scheduled.isSome then d.record tag .busy
      else
        let sf := nf + BitVec.ofNat 12 d.ds
        (d.schedule g sf tag).record tag (.accept g sf)

/-- Step 4 of an inbound arrival, for a good header: R87 and then R88 and R89. -/
def Scheduler.arrival (d : Scheduler) (running : Bool) (nf : FrameNo) (ceil : Nat) (good : Option RxHeader) : Scheduler :=
  match good with
  | none => d
  | some h =>
    let d := d.forget h
    match h.request with
    | none => d
    | some r => if d.isNew h.reqTag then d.answerRequest running nf ceil r h.reqTag else d

/-- The fill rule of R92: the profile of frame `n`, with the Scheduler after the choice. The forced switch is cleared at every
fill, and the outbound profile becomes the profile given. -/
def Scheduler.fillProfile (d : Scheduler) (n : FrameNo) : Nat × Scheduler :=
  let otherwise : Nat × Scheduler :=
    match d.forced with
    | some p => (p, { d with forced := none, outbound := p, forcedMade := bump d.forcedMade })
    | none => (d.outbound, d)
  match d.scheduled with
  | some w =>
    if w.sf = n then
      (w.granted, { d with scheduled := none, forced := none, outbound := w.granted, scheduledMade := bump d.scheduledMade })
    else otherwise
  | none => otherwise

/-- A present scheduled switch above a ceiling is lowered to it, and cleared if it then equals the outbound profile (R94). -/
def Scheduler.lowerScheduled (d : Scheduler) (ceil : Nat) : Scheduler :=
  match d.scheduled with
  | some w =>
    if ceil < w.granted then
      { d with scheduled := if ceil = d.outbound then none else some { w with granted := ceil } }
    else d
  | none => d

/-- The Scheduler's response to an effective tx ceiling lowered to `ceil` (R94). -/
def Scheduler.lowerCeiling (d : Scheduler) (ceil : Nat) : Scheduler :=
  let d' :=
    match d.forced with
    | some p => if ceil < p then { d with forced := some ceil } else d
    | none => if ceil < d.outbound then d.force ceil else d
  d'.lowerScheduled ceil

end Sys2Proof.Machine
end

