-- ==== Sys2Proof/Machine/Distributor.lean ====
section
/-! DEFINITION. The Segment Distributor (Chapter 7): the fill arbiter, the draw of one segment (R116, R126, R127), the three kinds of
fill (R124), and the sweep's count at a fill (R157). -/

namespace Sys2Proof.Machine

/-! ### Drawing segments -/

/-- The bytes of one slot of a frame (R113). -/
def slotBytes (f : Frame) (i : Nat) : List Byte := bytesFrom f (64 * i) 64

/-- The lowest-numbered class whose queue is not empty, with its head frame (R116). -/
def Queues.headOf (q : Queues) : Option (ClassId × Frame) :=
  match q.frames.at0, q.frames.at1, q.frames.at2, q.frames.at3 with
  | f :: _, _, _, _ => some (0, f)
  | [], f :: _, _, _ => some (1, f)
  | [], [], f :: _, _ => some (2, f)
  | [], [], [], f :: _ => some (3, f)
  | [], [], [], [] => none

/-- The slot that the next draw takes, and the queues with its frame as the frame in progress: the frame in progress goes on,
otherwise the head frame of the most important class leaves its queue (R116). -/
def Queues.select (q : Queues) : Option (Cursor × Queues) :=
  match q.cursor with
  | some cu => some (cu, q)
  | none =>
    match q.headOf with
    | some (k, f) => some ({ frame := f, cls := k, next := 0 }, { q with frames := q.frames.upd k List.tail })
    | none => none

/-- The data segment of a cursor's next slot, numbered from the sequence counter (R126, R127). -/
def cursorSegment (cu : Cursor) (seq : SeqNo) : Segment :=
  let bytes := slotBytes cu.frame cu.next
  { seq := seq
    first := decide (cu.next = 0)
    last := decide (slotCount cu.frame ≤ cu.next + 1)
    idle := false
    count := bytes.length
    payload := padTo 64 bytes }

/-- The queues after a cursor's next slot is drawn: the slot returned, the number given out, the cursor advanced or none (R116,
R126, R129). A segment with FIRST set is counted as it is drawn (R132): DEDUCED (notes/assumptions/7.md). -/
def Queues.advance (q : Queues) (cu : Cursor) : Queues :=
  { q with
    occupancy := q.occupancy.upd cu.cls (fun n => n - 1)
    seq := q.seq + 1
    cursor := if slotCount cu.frame ≤ cu.next + 1 then none else some { cu with next := cu.next + 1 }
    framesStarted := if cu.next = 0 then bump q.framesStarted else q.framesStarted }

/-- One draw: one segment, or nothing when no frame is in progress and every queue is empty (R116). -/
def Queues.draw (q : Queues) : Option (Segment × Queues) :=
  match q.select with
  | some (cu, q') => some (cursorSegment cu q'.seq, q'.advance cu)
  | none => none

/-- Draw segments until a number have been drawn or a draw finds nothing (R125). -/
def Queues.drawMany (q : Queues) : Nat → List Segment × Queues
  | 0 => ([], q)
  | n + 1 =>
    match q.draw with
    | some (g, q') =>
      let r := q'.drawMany n
      (g :: r.1, r.2)
    | none => ([], q)

/-! ### The sweep at a fill -/

/-- Whether the next fill of a carrier brings an ACTIVE sweep's count to Dw (R157; R177 for a lowered Dw). -/
def TestUnit.sweepReaches (t : TestUnit) : Bool := t.sweepActive && decide (t.dw ≤ t.sweepCount + 1)

/-- The sweep counts a fill; at Dw it steps up with a forced switch while its step is below the effective tx ceiling, and ends
otherwise (R157). -/
def Carrier.sweepFill (k : Carrier) : Carrier :=
  if k.test.sweepActive then
    if k.test.sweepReaches then
      if k.test.sweepStep < k.txCeil then
        { k with
          test := { k.test with sweepStep := k.test.sweepStep + 1, sweepCount := 0 }
          sched := k.sched.force (k.test.sweepStep + 1) }
      else { k with test := { k.test with sweepActive := false, sweepCount := k.test.sweepCount + 1 } }
    else { k with test := { k.test with sweepCount := k.test.sweepCount + 1 } }
  else k

/-- Whether the fill ends the sweep at its last step, which signals SWEEP DONE (R157). -/
def Carrier.sweepEnds (k : Carrier) : Bool := k.test.sweepReaches && decide (k.txCeil ≤ k.test.sweepStep)

/-! ### One fill -/

/-- The kinds of fill (R124). -/
inductive FillKind where
  | data
  | idle
  | pattern
  deriving DecidableEq, Repr

/-- The kind of fill that the carrier state at the grant selects (R124); an OFF carrier makes no fill. -/
def fillKind (st : CarrierState) : FillKind :=
  match st with
  | .run => .data
  | .hold => .data
  | .test => .pattern
  | .acquire => .idle
  | .fallback => .idle
  | .off => .idle

/-- A frame's contents: its payload, first sequence and data count (R124 to R128). -/
structure Filling where
  payload : Payload
  firstSeq : SeqNo
  dataCount : Nat
  deriving DecidableEq, Repr

/-- A data fill of a frame with `cap` slots from the segments drawn for it: idle segments behind them, and the number of the segment
in slot 0 as the first sequence (R125, R128). -/
def dataFilling (drawn : List Segment) (cap : Nat) : Filling :=
  { payload := .segments (drawn ++ List.replicate (cap - drawn.length) idleSegment)
    firstSeq := match drawn with | g :: _ => g.seq | [] => 0
    dataCount := drawn.length }

/-- An idle fill of a frame with `cap` slots (R124, R128). -/
def idleFilling (cap : Nat) : Filling :=
  { payload := .segments (List.replicate cap idleSegment), firstSeq := 0, dataCount := 0 }

/-- A pattern fill of a frame with `cap` slots (R151, R128). -/
def patternFilling (cap : Nat) : Filling := { payload := .pattern cap, firstSeq := 0, dataCount := 0 }

/-- The Distributor's counters at the end of a fill (R132); the data segments placed have been counted as they were drawn. -/
def Distributor.counted (d : Distributor) (kind : FillKind) (cap data : Nat) : Distributor :=
  match kind with
  | .pattern => { d with patternFills := bump d.patternFills }
  | .data => { d with dataFills := bump d.dataFills, idleSegments := bumpBy d.idleSegments (cap - data) }
  | .idle => { d with idleFills := bump d.idleFills, idleSegments := bumpBy d.idleSegments cap }

/-- The fill record of frame `n` at a profile of the carrier's ladder (section 1.1, R123 step 2). -/
def Carrier.fillRecord (k : Carrier) (n : FrameNo) (p : Nat) (w : Filling) : FillRecord :=
  { fn := n
    profile := p
    modulation := (k.ladder.at p).modulation
    rate := (k.ladder.at p).rate
    capacity := (k.ladder.at p).capacity
    payload := w.payload
    firstSeq := w.firstSeq
    dataCount := w.dataCount }

/-- The carrier once the Scheduler has given frame `n` its profile and the sweep has counted the fill (R123 step 1, R157). -/
def Carrier.chooseProfile (k : Carrier) (n : FrameNo) : Carrier :=
  { k with sched := (k.sched.fillProfile n).2 }.sweepFill

/-- The lane takes the fill record of frame `n` and moves Nf on (R4, R123 step 5); the Distributor counts the fill. -/
def Carrier.takeRecord (k : Carrier) (kind : FillKind) (n : FrameNo) (p : Nat) (w : Filling) : Carrier :=
  { k with
    lane := { k.lane with records := k.lane.records ++ [k.fillRecord n p w], nf := some (n + 1) }
    dist := k.dist.counted kind (k.ladder.at p).capacity w.dataCount }

/-- The data segments placed count `n` segments drawn for the carrier's frame (R132). DEDUCED (notes/assumptions/7.md): as they are
drawn, so that the counter stands in step with the numbers given out wherever a STATUS with clear comes. -/
def Carrier.place (k : Carrier) (n : Nat) : Carrier :=
  { k with dist := { k.dist with dataSegments := bumpBy k.dist.dataSegments n } }

/-- The carrier's standing fill request leaves the standing requests (R121). -/
def Carrier.dropRequest (k : Carrier) : Carrier := { k with dist := { k.dist with request := none } }

/-- Steps 1 and 2 of a granted fill: the profile chosen, SWEEP DONE where the sweep ends, and a changed contribution signalled
(R123). -/
def State.beginFill (s : State) (c : CarrierId) (n : FrameNo) : State :=
  let k := s.car c
  ((s.setCar c (k.chooseProfile n).dropRequest).signalIf k.sweepEnds .sweepDone).signalContribution c

/-- Steps 4 and 5 of a fill: the record is handed to the lane (R123). -/
def State.handRecord (s : State) (kind : FillKind) (c : CarrierId) (n : FrameNo) (p : Nat) (w : Filling) : State :=
  s.updCar c (fun k => k.takeRecord kind n p w)

/-- The granted fill of frame `n` for carrier `c` up to its first draw: an idle fill and a pattern fill are carried out whole, and a
data fill is begun (R121, R123, R124). An OFF carrier makes no fill. -/
def State.openFill (s : State) (c : CarrierId) (n : FrameNo) : State :=
  let k := s.car c
  let p := (k.sched.fillProfile n).1
  let cap := (k.ladder.at p).capacity
  if k.control.state = .off then s.setCar c k.dropRequest
  else
    let t := s.beginFill c n
    match fillKind k.control.state with
    | .data => { t with filling := some { carrier := c, fn := n, profile := p, drawn := [] } }
    | .idle => t.handRecord .idle c n p (idleFilling cap)
    | .pattern => t.handRecord .pattern c n p (patternFilling cap)

/-! ### The draws of a data fill -/

/-- The number of slots of the frame that is being filled. -/
def State.fillCapacity (s : State) (w : OpenFill) : Nat := ((s.car w.carrier).ladder.at w.profile).capacity

/-- A data fill ends: its record is handed to the lane and no fill is being carried out (R123, R125). -/
def State.endFill (s : State) (w : OpenFill) : State :=
  { s with filling := none }.handRecord .data w.carrier w.fn w.profile (dataFilling w.drawn (s.fillCapacity w))

/-- The fill that is being carried out makes at most `n` more draws. It ends when its frame is full or a draw finds nothing, and
otherwise waits for its next draw (R122, R125). -/
def State.drawOn (s : State) (n : Nat) : State :=
  match s.filling with
  | none => s
  | some w =>
    let cap := s.fillCapacity w
    let m := min n (cap - w.drawn.length)
    let d := s.queues.drawMany m
    let w' := { w with drawn := w.drawn ++ d.1 }
    let t := { s with queues := d.2 }.updCar w.carrier (fun k => k.place d.1.length)
    if d.1.length = m ∧ w'.drawn.length < cap then { t with filling := some w' } else t.endFill w'

/-- The fill that is being carried out, if any, is completed. -/
def State.completeFill (s : State) : State :=
  match s.filling with
  | none => s
  | some w => s.drawOn (s.fillCapacity w)

/-- A fill of carrier `c` that is being carried out is completed: an inbound arrival, a carrier command or a SET of the tx ceiling of
that carrier is taken before the grant of its fill or after the fill's completion (R122). DESIGN CHOICE (notes/assumptions/7.md): after
it. -/
def State.completeFillOf (s : State) (c : CarrierId) : State :=
  match s.filling with
  | none => s
  | some w => if w.carrier = c then s.completeFill else s

/-! ### The arbiter -/

/-- The standing fill request that the arbiter grants: chain order, carrier 0 first (R121). -/
def State.grant (s : State) : Option (CarrierId × FrameNo) :=
  match (s.car 0).dist.request, (s.car 1).dist.request, (s.car 2).dist.request, (s.car 3).dist.request with
  | some n, _, _, _ => some (0, n)
  | none, some n, _, _ => some (1, n)
  | none, none, some n, _ => some (2, n)
  | none, none, none, some n => some (3, n)
  | none, none, none, none => none

/-- The arbiter grants one standing fill request and its fill is begun; with none standing, nothing happens (R121). -/
def State.grantFill (s : State) : State :=
  match s.grant with
  | some (c, n) => s.openFill c n
  | none => s

/-- The fill that is being carried out, if any, makes the draws that the plan lists before any other event, or all it has left
(R122). -/
def State.goOn (s : State) : State :=
  match s.filling, s.drawPlan with
  | none, _ => s
  | some _, [] => s.completeFill
  | some _, n :: rest => { s with drawPlan := rest }.drawOn n

/-- The fill that is being carried out goes on; with none, the arbiter grants the next fill, and it is carried out (R121, R122). -/
def State.fill (s : State) : State := (if s.filling.isSome then s else s.grantFill).goOn

/-- The fill that is being carried out is completed, and then the next fill is granted and carried out whole (R121). -/
def State.fillNext (s : State) : State := s.completeFill.grantFill.completeFill

/-- Whole fills in chain order until no request of carrier `c` stands, at most `n` of them (R3, R121: every standing request is served
before the next outbound frame start of its carrier). DEDUCED (notes/assumptions/8.md): in chain order. -/
def State.serveBefore (s : State) (c : CarrierId) : Nat → State
  | 0 => s
  | n + 1 => if (s.car c).dist.request.isSome then s.fillNext.serveBefore c n else s

/-- What the Distributor does before an outbound frame start of carrier `c`: its fill that is being carried out is completed and its
standing request served (R3, R121). -/
def State.beforeStart (s : State) (c : CarrierId) : State := (s.completeFillOf c).serveBefore c 4

/-- Whether the fill granted next brings its carrier's sweep to the end of a step (R157). -/
def State.nextFillReaches (s : State) : Bool :=
  match s.grant with
  | some (c, _) => decide ((s.car c).control.state ≠ .off) && (s.car c).test.sweepReaches
  | none => false

/-- FILL: the arbiter grants a standing fill request in chain order and the fill is carried out; a data fill that the plan interrupts
between two draws goes on at the next FILL (R121 to R123). DESIGN CHOICE (notes/assumptions/7.md): the plan. -/
def execFill (s : State) : Answer State := s.unlessHeld State.fill

/-- SWEEP_STEP: a fill, carried out whole, at which the sweep count reaches Dw, so that the sweep steps up with a forced switch, or ends
at the ceiling (R157). Where the next fill is no such fill, this event does not come about: DESIGN CHOICE (notes/assumptions/4.md). -/
def execSweepStep (s : State) : Answer State := s.unlessHeld (fun s => if s.nextFillReaches then s.fillNext else s)

end Sys2Proof.Machine
end

