-- ==== Sys2Proof/Machine/Params.lean ====
section
/-! DEFINITION. The parameters of SET and GET (R177): how each is stored, and its value as read back. -/

namespace Sys2Proof.Machine

/-- What a command returned and the state it left (R172). -/
abbrev Ran := Reply × State

/-- A command refused: no data and no effect (R171). -/
def refuse (r : Result) (s : State) : Ran := ({ result := r, data := [] }, s)

/-- A command taken, with its data. -/
def answer (r : Result) (data : List Byte) (s : State) : Ran := ({ result := r, data := data }, s)

/-- A command of a carrier: a carrier number outside 0 to 3 is refused with RANGE (R176 to R178). -/
def withCarrier (b : Byte) (s : State) (f : CarrierId → Ran) : Ran :=
  match carrierOf b with
  | some c => f c
  | none => refuse .range s

/-- What storing a parameter did to what holds it: its result and the new holder; none when the value is refused with RANGE. -/
abbrev Stored (α : Type) := Option (Result × α)

/-- A numeric value clamped to its range and stored (R172, R192). -/
def storeClamped {α : Type} (lo hi v : Int) (put : Int → α) : Stored α :=
  let w := clampInt lo hi v
  some (okOrClamped (decide (w ≠ v)), put w)

/-- Change the carrier settings alone. -/
def Carrier.onControl (k : Carrier) (f : Control → Control) : Carrier := { k with control := f k.control }

/-- Change the estimator alone. -/
def Carrier.onEst (k : Carrier) (f : Estimator → Estimator) : Carrier := { k with est := f k.est }

/-- Change the Requester alone. -/
def Carrier.onReq (k : Carrier) (f : Requester → Requester) : Carrier := { k with req := f k.req }

/-- Na (R19). -/
def storeNa (k : Carrier) (v : Int) : Stored Carrier :=
  storeClamped 1 15 v (fun w => k.onControl (fun x => { x with na := w.toNat }))

/-- Tf (R19). -/
def storeTf (k : Carrier) (v : Int) : Stored Carrier :=
  storeClamped 1 255 v (fun w => k.onControl (fun x => { x with tf := w.toNat }))

/-- Recovery: AUTO is 0 and LATCH is 1; any other code is refused (R19, section 13.3). -/
def storeRecovery (k : Carrier) (v : Int) : Stored Carrier :=
  if v = 0 then some (.ok, k.onControl (fun x => { x with recovery := .auto }))
  else if v = 1 then some (.ok, k.onControl (fun x => { x with recovery := .latch }))
  else none

/-- Store an adaptation mode; a change is signalled to the Requester (R33, R76). -/
def changeMode (k : Carrier) (m : Mode) : Carrier :=
  if k.control.mode = m then k
  else (k.onControl (fun x => { x with mode := m })).onReq Requester.modeChanged

/-- Adaptation mode: ADAPTIVE is 0 and FIXED is 1; any other code is refused (R19, R33, section 13.3). -/
def storeMode (k : Carrier) (v : Int) : Stored Carrier :=
  if v = 0 then some (.ok, changeMode k .adaptive)
  else if v = 1 then some (.ok, changeMode k .fixed)
  else none

/-- Store a fixed profile; in FIXED mode a different value counts as a change of mode (R33, R76). -/
def changeFixed (k : Carrier) (p : Nat) : Carrier :=
  let k' := k.onControl (fun x => { x with fixedProfile := p })
  if k.control.mode = .fixed ∧ p ≠ k.control.fixedProfile then k'.onReq Requester.modeChanged else k'

/-- Fixed profile (R19, R33). -/
def storeFixed (k : Carrier) (v : Int) : Stored Carrier := storeClamped 0 11 v (fun w => changeFixed k w.toNat)

/-- Rx floor: clamped first, then refused if it would exceed the stored rx ceiling (R34). -/
def storeRxFloor (k : Carrier) (v : Int) : Stored Carrier :=
  if k.control.rxCeiling < (clampInt 0 11 v).toNat then none
  else storeClamped 0 11 v (fun w => k.onControl (fun x => { x with rxFloor := w.toNat }))

/-- Rx ceiling: clamped first, then refused if it would fall below the stored rx floor (R34). -/
def storeRxCeiling (k : Carrier) (v : Int) : Stored Carrier :=
  if (clampInt 0 11 v).toNat < k.control.rxFloor then none
  else storeClamped 0 11 v (fun w => k.onControl (fun x => { x with rxCeiling := w.toNat }))

/-- What a lowered effective tx ceiling does at once: the Scheduler forces or clamps (R94), and an ACTIVE sweep above it falls back to
it (R158). -/
def ceilingLowered (k : Carrier) (ceil : Nat) : Carrier :=
  { k with
    sched := k.sched.lowerCeiling ceil
    test := if k.test.sweepActive ∧ ceil < k.test.sweepStep then { k.test with sweepStep := ceil, sweepCount := 0 } else k.test }

/-- Store a tx ceiling; a lowered effective ceiling acts at once, but in OFF, where effective values are not used (R35, R36, R94). -/
def changeTxCeiling (k : Carrier) (p : Nat) : Carrier :=
  let k' := k.onControl (fun x => { x with txCeiling := p })
  if k.control.state ≠ .off ∧ k'.txCeil < k.txCeil then ceilingLowered k' k'.txCeil else k'

/-- Tx ceiling (R19, R35). -/
def storeTxCeiling (k : Carrier) (v : Int) : Stored Carrier := storeClamped 0 11 v (fun w => changeTxCeiling k w.toNat)

/-- Block penalty Pb (R40). -/
def storePb (k : Carrier) (v : Int) : Stored Carrier :=
  storeClamped 0 255 v (fun w => k.onEst (fun x => { x with pb := w.toNat }))

/-- Fall shift ad (R40). -/
def storeAd (k : Carrier) (v : Int) : Stored Carrier :=
  storeClamped 0 7 v (fun w => k.onEst (fun x => { x with ad := w.toNat }))

/-- Rise shift au (R40). -/
def storeAu (k : Carrier) (v : Int) : Stored Carrier :=
  storeClamped 0 7 v (fun w => k.onEst (fun x => { x with au := w.toNat }))

/-- Slope shift bs (R40). -/
def storeBs (k : Carrier) (v : Int) : Stored Carrier :=
  storeClamped 0 7 v (fun w => k.onEst (fun x => { x with bs := w.toNat }))

/-- Lookahead Lp (R40). -/
def storeLp (k : Carrier) (v : Int) : Stored Carrier :=
  storeClamped 0 31 v (fun w => k.onEst (fun x => { x with lp := w.toNat }))

/-- Upshift dwell Nu (R66). -/
def storeNu (k : Carrier) (v : Int) : Stored Carrier :=
  storeClamped 1 255 v (fun w => k.onReq (fun x => { x with nu := w.toNat }))

/-- Hold-off Th: a running hold-off timer is not altered (R66). -/
def storeTh (k : Carrier) (v : Int) : Stored Carrier :=
  storeClamped 0 65535 v (fun w => k.onReq (fun x => { x with th := w.toNat }))

/-- Urgent slope Gu (R66). -/
def storeGu (k : Carrier) (v : Int) : Stored Carrier :=
  storeClamped (-2048) 0 v (fun w => k.onReq (fun x => { x with gu := w }))

/-- Request time Tr: a running request timer is not altered (R66, R98). -/
def storeTr (k : Carrier) (v : Int) : Stored Carrier :=
  storeClamped 4 255 v (fun w => k.onReq (fun x => { x with tr := w.toNat }))

/-- Step delay Ds (R86). -/
def storeDs (k : Carrier) (v : Int) : Stored Carrier :=
  storeClamped 0 13 v (fun w => { k with sched := { k.sched with ds := w.toNat } })

/-- Sweep dwell Dw (R177): during an ACTIVE sweep it is used at the next fill. -/
def storeDw (k : Carrier) (v : Int) : Stored Carrier :=
  storeClamped 1 65535 v (fun w => { k with test := { k.test with dw := w.toNat } })

/-- Default class (R109). -/
def storeDefaultClass (s : State) (v : Int) : Stored State :=
  storeClamped 0 3 v (fun w => { s with classifier := { s.classifier with defaultClass := Fin.ofNat 4 w.toNat } })

/-- Gap time Tg: a running gap timer keeps its value (R134). -/
def storeTg (s : State) (v : Int) : Stored State :=
  storeClamped 1 255 v (fun w => { s with reseq := { s.reseq with tg := w.toNat } })

/-- Late-run limit K (R134). -/
def storeK (s : State) (v : Int) : Stored State :=
  storeClamped 1 1024 v (fun w => { s with reseq := { s.reseq with k := w.toNat } })

/-- Management type code: 0x8100 is refused (R168). -/
def storeTypeCode (s : State) (v : Int) : Stored State :=
  if v = (Config.vlanTagId : Nat) then none
  else storeClamped 0x0600 0xFFFF v (fun w => { s with agent := { s.agent with typeCode := BitVec.ofInt 16 w } })

/-- The alert mask: bits 21 to 31 are not read (R182, R192). -/
def storeMask (s : State) (v : BitVec 32) : State := { s with alert := { s.alert with mask := v.setWidth 21 } }

/-- How a parameter of one carrier is stored; none too for a parameter of the device. -/
def storeCarrierParam (p : Param) (k : Carrier) (v : Int) : Stored Carrier :=
  match p with
  | .acquisitionCountLimit => storeNa k v
  | .freshnessLimit => storeTf k v
  | .recovery => storeRecovery k v
  | .adaptationMode => storeMode k v
  | .fixedProfile => storeFixed k v
  | .rxFloor => storeRxFloor k v
  | .rxCeiling => storeRxCeiling k v
  | .txCeiling => storeTxCeiling k v
  | .blockPenalty => storePb k v
  | .fallShift => storeAd k v
  | .riseShift => storeAu k v
  | .slopeShift => storeBs k v
  | .lookahead => storeLp k v
  | .upshiftDwell => storeNu k v
  | .holdOff => storeTh k v
  | .urgentSlope => storeGu k v
  | .requestTime => storeTr k v
  | .stepDelay => storeDs k v
  | .sweepDwell => storeDw k v
  | .defaultClass => none
  | .gapTime => none
  | .lateRunLimit => none
  | .managementTypeCode => none
  | .alertMask => none

/-- The value of a parameter of one carrier, in the codes of SET (R177, section 13.3). -/
def carrierParam (p : Param) (k : Carrier) : Int :=
  match p with
  | .acquisitionCountLimit => k.control.na
  | .freshnessLimit => k.control.tf
  | .recovery => match k.control.recovery with | .auto => 0 | .latch => 1
  | .adaptationMode => match k.control.mode with | .adaptive => 0 | .fixed => 1
  | .fixedProfile => k.control.fixedProfile
  | .rxFloor => k.control.rxFloor
  | .rxCeiling => k.control.rxCeiling
  | .txCeiling => k.control.txCeiling
  | .blockPenalty => k.est.pb
  | .fallShift => k.est.ad
  | .riseShift => k.est.au
  | .slopeShift => k.est.bs
  | .lookahead => k.est.lp
  | .upshiftDwell => k.req.nu
  | .holdOff => k.req.th
  | .urgentSlope => k.req.gu
  | .requestTime => k.req.tr
  | .stepDelay => k.sched.ds
  | .sweepDwell => k.test.dw
  | .defaultClass => 0
  | .gapTime => 0
  | .lateRunLimit => 0
  | .managementTypeCode => 0
  | .alertMask => 0

/-- A SET of a parameter of one carrier, returning the value stored (R177). -/
def setCarrierParam (p : Param) (b : Byte) (v : BitVec 32) (s : State) : Ran :=
  withCarrier b s (fun c =>
    match storeCarrierParam p (s.car c) v.toInt with
    | some (r, k) => answer r (signed32 (carrierParam p k)) (s.setCar c k)
    | none => refuse .range s)

/-- A SET of a parameter of the device that holds a number, returning the value stored (R177). -/
def setDeviceParam (stored : Stored State) (read : State → Int) (s : State) : Ran :=
  match stored with
  | some (r, t) => answer r (signed32 (read t)) t
  | none => refuse .range s

/-- The alert mask as the 4-byte mask of section 13.3. -/
def maskBytes (m : BitVec 21) : List Byte := be32 m.toNat

/-- The default class as a number. -/
def readDefaultClass (s : State) : Int := (s.classifier.defaultClass.val : Nat)

/-- Tg as a number. -/
def readTg (s : State) : Int := s.reseq.tg

/-- K as a number. -/
def readK (s : State) : Int := s.reseq.k

/-- The management type code as a number. -/
def readTypeCode (s : State) : Int := (s.agent.typeCode.toNat : Nat)

/-- SET of the tx ceiling, taken after a fill of its carrier that is being carried out is completed (R94, R122). -/
def setTxCeiling (b : Byte) (v : BitVec 32) (s : State) : Ran :=
  withCarrier b s (fun c => setCarrierParam .txCeiling b v (s.completeFillOf c))

/-- SET (R177). For a device parameter the carrier number is not read. -/
def runSet (p : Param) (b : Byte) (v : BitVec 32) (s : State) : Ran :=
  match p with
  | .defaultClass => setDeviceParam (storeDefaultClass s v.toInt) readDefaultClass s
  | .gapTime => setDeviceParam (storeTg s v.toInt) readTg s
  | .lateRunLimit => setDeviceParam (storeK s v.toInt) readK s
  | .managementTypeCode => setDeviceParam (storeTypeCode s v.toInt) readTypeCode s
  | .alertMask => answer .ok (maskBytes (storeMask s v).alert.mask) (storeMask s v)
  | .txCeiling => setTxCeiling b v s
  | _ => setCarrierParam p b v s

/-- The stored value of a parameter, as GET returns it (R177). -/
def getParam (p : Param) (b : Byte) (s : State) : Ran :=
  match p with
  | .defaultClass => answer .ok (signed32 (readDefaultClass s)) s
  | .gapTime => answer .ok (signed32 (readTg s)) s
  | .lateRunLimit => answer .ok (signed32 (readK s)) s
  | .managementTypeCode => answer .ok (signed32 (readTypeCode s)) s
  | .alertMask => answer .ok (maskBytes s.alert.mask) s
  | _ => withCarrier b s (fun c => answer .ok (signed32 (carrierParam p (s.car c))) s)

/-- GET (R177): an unknown parameter code is refused with UNKNOWN. -/
def runGet (code b : Byte) (s : State) : Ran :=
  match paramOf code with
  | some p => getParam p b s
  | none => refuse .unknown s

end Sys2Proof.Machine
end

