-- ==== Sys2Proof/Machine/CarrierCommands.lean ====
section
/-! DEFINITION. The commands CARRIER, SWEEP and CAPTURE (R25 to R32, R64, R156, R164 to R166, R178). -/

namespace Sys2Proof.Machine

/-! ### Ladder validation (R64) -/

/-- The lowest of `n` indices from `k` at which a condition fails. -/
def firstFailure (ok : Nat → Bool) : Nat → Nat → Option Nat
  | 0, _ => none
  | n + 1, k => if ok k then firstFailure ok n (k + 1) else some k

/-- The five checks of R64 with the indices over which each runs: the first check that fails, and the index reported for it. -/
def Ladder.validate (l : Ladder) : Option (Nat × Nat) :=
  if l.length < 1 then some (1, 0)
  else
    match firstFailure (fun k =>
        if k = 0 then decide (1 ≤ (l.at 0).capacity) else decide ((l.at (k - 1)).capacity < (l.at k).capacity)) l.length 0 with
    | some k => some (2, k)
    | none =>
      match firstFailure (fun k => decide ((l.at (k - 1)).enter < (l.at k).enter)) (l.length - 2) 2 with
      | some k => some (3, k)
      | none =>
        match firstFailure (fun k => decide ((l.at (k - 1)).hold ≤ (l.at k).hold)) (l.length - 2) 2 with
        | some k => some (4, k)
        | none =>
          match firstFailure (fun k => decide ((l.at k).hold + 4 ≤ (l.at k).enter)) (l.length - 1) 1 with
          | some k => some (5, k)
          | none => none

/-! ### CARRIER -/

/-- The idle fill record of a frame that a lane makes at ENABLE, at profile 0 (R1, R26). -/
def Carrier.enableRecord (k : Carrier) (n : FrameNo) : FillRecord :=
  { fn := n
    profile := 0
    modulation := (k.ladder.at 0).modulation
    rate := (k.ladder.at 0).rate
    capacity := (k.ladder.at 0).capacity
    payload := .segments (List.replicate (k.ladder.at 0).capacity idleSegment)
    firstSeq := 0
    dataCount := 0 }

/-- The profile table given to the modem: modulation code and code-rate index of each entry of the ladder (R2). -/
def Ladder.modemTable (l : Ladder) : List (Nat × Nat) := (l.entries.toList.take l.length).map (fun e => (e.modulation, e.rate))

/-- A carrier enabled (R1, R2, R26, R27). -/
def Carrier.enabled (k : Carrier) : Carrier :=
  let k := k.startClearing
  { k with
    ladder := { k.ladder with locked := true }
    lane :=
      { k.lane with
        outCounter := 4095
        records := [k.enableRecord 0, k.enableRecord 1]
        nf := some 2
        modemTable := some k.ladder.modemTable } }

/-- CARRIER ENABLE (R26, R64). -/
def runEnable (b : Byte) (s : State) : Ran :=
  withCarrier b s (fun c =>
    let k := s.car c
    if k.control.state ≠ .off then refuse .state s
    else
      match k.ladder.validate with
      | some (check, index) => answer .ladder (byteOf check ++ byteOf index) s
      | none => answer .ok [] ((s.setCar c k.enabled).signalContribution c))

/-- A carrier disabled (R29): its standing fill request is withdrawn too (R30). -/
def Carrier.disabled (k : Carrier) : Carrier :=
  { k with
    control := { k.control.enter .off with freshness := 0 }
    est := k.est.cleared
    req := k.req.cleared
    sched := k.sched.cleared
    test := k.test.endSweep
    ladder := { k.ladder with locked := false }
    lane := { k.lane with records := [], nf := none, modemTable := none }
    dist := { k.dist with request := none } }

/-- A disable of the selected carrier ends a capture that is ARMED or in POST, with end cause CUT (R165). -/
def State.cutCapture (s : State) (c : CarrierId) : State :=
  if s.history.carrier = c ∧ (s.history.state = .armed ∨ s.history.state = .post) then s.captureEnds .cut else s

/-- CARRIER DISABLE (R29): in OFF it changes nothing; a fill of the carrier that is being carried out is completed first (R122). -/
def runDisable (b : Byte) (s : State) : Ran :=
  withCarrier b s (fun c =>
    if (s.car c).control.state = .off then answer .ok [] s
    else
      let s := s.completeFillOf c
      answer .ok [] (((s.setCar c (s.car c).disabled).cutCapture c).signalContribution c))

/-- CARRIER RESTART (R28): the fill records, the frame counter, Nf and a standing fill request are kept; a fill of the carrier that is
being carried out is completed first (R122). -/
def runRestart (b : Byte) (s : State) : Ran :=
  withCarrier b s (fun c =>
    if (s.car c).control.state = .off then refuse .state s
    else
      let s := s.completeFillOf c
      answer .ok [] ((s.setCar c (s.car c).startClearing).signalContribution c))

/-- A carrier that enters TEST at a test profile (R31). -/
def Carrier.enterTest (k : Carrier) (p : Nat) : Carrier :=
  { k with
    control := k.control.enter .test
    req := k.req.abandon
    sched := k.sched.force p
    test := k.test.clearResults }

/-- CARRIER TEST_ENTER (R31): the test profile is clamped to the effective tx ceiling and returned; a fill of the carrier that is being
carried out is completed first (R122). -/
def runTestEnter (b profile : Byte) (s : State) : Ran :=
  withCarrier b s (fun c =>
    if (s.car c).control.state = .off ∨ (s.car c).control.state = .test then refuse .state s
    else
      let s := s.completeFillOf c
      let k := s.car c
      let p := min profile.toNat k.txCeil
      answer (okOrClamped (decide (k.txCeil < profile.toNat))) (byteOf p)
        ((s.setCar c (k.enterTest p)).signalContribution c))

/-- A carrier that leaves TEST for ACQUIRE (R32). -/
def Carrier.leaveTest (k : Carrier) : Carrier :=
  { k with control := k.control.enter .acquire, sched := k.sched.force 0, test := k.test.endSweep }

/-- CARRIER TEST_LEAVE (R32). -/
def runTestLeave (b : Byte) (s : State) : Ran :=
  withCarrier b s (fun c =>
    let k := s.car c
    if k.control.state = .test then answer .ok [] ((s.setCar c k.leaveTest).signalContribution c) else refuse .state s)

/-- CARRIER CLEAR_HOLD (R25): the contribution is unchanged and is not signalled (R37); a fill of the carrier that is being carried out
is completed first (R122). -/
def runClearHold (b : Byte) (s : State) : Ran :=
  withCarrier b s (fun c =>
    if (s.car c).control.state = .hold then
      let s := s.completeFillOf c
      answer .ok [] (s.setCar c (s.car c).enterRun)
    else refuse .state s)

/-! ### SWEEP -/

/-- A carrier whose sweep starts at a profile (R156). -/
def Carrier.startSweep (k : Carrier) (p dw : Nat) : Carrier :=
  { k with
    test := { k.test.clearResults with sweepActive := true, sweepStep := p, sweepCount := 0, dw := dw }
    sched := k.sched.force p }

/-- The dwell a SWEEP stores: 0 is clamped to 1, and a command without a dwell leaves Dw as it stands (R156, R192). -/
def sweepDwellOf (k : Carrier) (dwell : Option (BitVec 16)) : Nat :=
  match dwell with
  | some d => max 1 d.toNat
  | none => k.test.dw

/-- SWEEP (R156): it returns the start profile and Dw stored (R178). -/
def runSweep (b start : Byte) (dwell : Option (BitVec 16)) (s : State) : Ran :=
  withCarrier b s (fun c =>
    let k := s.car c
    if k.control.state = .test then
      let p := min start.toNat k.txCeil
      let dw := sweepDwellOf k dwell
      answer (okOrClamped (decide (k.txCeil < start.toNat) || decide (dwell = some 0))) (byteOf p ++ be16 dw)
        (s.setCar c (k.startSweep p dw))
    else refuse .state s)

/-! ### CAPTURE -/

/-- History Capture armed (R164). -/
def History.arm (y : History) (c : CarrierId) (t : Trigger) (post : Nat) : History :=
  { y with
    state := .armed, carrier := c, trigger := t, post := post, ring := [], postRecords := 0, lastFn := none, cause := .normal }

/-- CAPTURE ARM (R164, R178): the carrier number first, then the trigger, then the carrier's state. DEDUCED
(notes/assumptions/22.md): that order. -/
def runCaptureArm (b trigger : Byte) (post : BitVec 16) (s : State) : Ran :=
  withCarrier b s (fun c =>
    match triggerOf trigger with
    | none => refuse .range s
    | some t =>
      if (s.car c).control.state = .off then refuse .state s
      else
        answer (okOrClamped (decide (511 < post.toNat))) []
          { s with history := s.history.arm c t (min post.toNat 511) })

/-- CAPTURE CANCEL (R164); the end cause is kept: DEDUCED (notes/assumptions/22.md). -/
def runCaptureCancel (s : State) : Ran :=
  answer .ok [] { s with history := { s.history with state := .idle, ring := [], postRecords := 0, lastFn := none } }

/-- The frame number of a record, 0xFFFF for none (section 13.5). -/
def fnBytes (n : Option FrameNo) : List Byte :=
  match n with
  | some n => be16 n.toNat
  | none => be16 0xFFFF

/-- The request issued field: kind in bits 5 and 4, target in bits 3 to 0 (section 13.5). -/
def issuedByte (r : Option Request) : List Byte :=
  match r with
  | some r => byteOf (16 * kindCode r.kind + r.target)
  | none => byteOf 0

/-- One mark of a history record at its bit. -/
def markBit (b : Bool) (n : Nat) : Nat := if b then 2 ^ n else 0

/-- The 16 bytes of a position that holds a record; VALID in bit 7 and FIRST in bit 6 of byte 0 (section 13.5). -/
def recordBytes (first : Bool) (r : Record) : List Byte :=
  byteOf (128 + markBit first 6) ++ fnBytes r.fn ++ be16 r.x ++ signed16 r.sample ++ signed16 r.level ++ signed16 r.slope ++
    signed16 r.quality ++ byteOf r.inbound ++ issuedByte r.issued ++
    byteOf (markBit r.answerTaken 5 + markBit r.completed 4 + markBit r.mismatch 3 + markBit r.fallback 2 +
      markBit r.outOfOrder 1 + markBit r.trigger 0)

/-- The position at an offset from the oldest record: VALID clear with every byte 0 where no record is held (R166). -/
def positionBytes (ring : List Record) (i : Nat) : List Byte :=
  match ring[i]? with
  | some r => recordBytes (decide (i = 0)) r
  | none => List.replicate 16 0#8

/-- The end cause codes (section 13.4). -/
def causeCode (e : EndCause) : Nat :=
  match e with
  | .normal => 0
  | .cut => 1

/-- CAPTURE READ (R166): taken only in DONE; an offset above 511 is refused, a count above 32 is taken as 32. -/
def runCaptureRead (offset : BitVec 16) (count : Byte) (s : State) : Ran :=
  let y := s.history
  if y.state ≠ .done then refuse .busy s
  else if 511 < offset.toNat then refuse .range s
  else
    answer (okOrClamped (decide (32 < count.toNat)))
      (byteOf (causeCode y.cause) ++ be16 y.postRecords ++
        (List.range (min count.toNat 32)).flatMap (fun i => positionBytes y.ring (offset.toNat + i))) s

end Sys2Proof.Machine
end

