-- ==== Sys2Proof/Machine/Requester.lean ====
section
/-! DEFINITION. The Profile Requester: its decisions at an inbound arrival (Chapter 4), the taking of answers, the end of PENDING and
header authority (section 5.3), and its request timer (section 5.2). -/

namespace Sys2Proof.Machine

/-- What an inbound arrival did at the Requester, for the Alert Unit and History Capture (R74, R80, R83, R84). -/
structure Marks where
  issued : Option Request
  answerTaken : Bool
  completed : Bool
  mismatch : Bool
  deriving DecidableEq, Repr

/-- No mark. -/
def Marks.none : Marks := { issued := Option.none, answerTaken := false, completed := false, mismatch := false }

/-- A Requester with the marks of the arrival so far. -/
abbrev Marked := Requester × Marks

/-- The effective rx window, with the decision level and slope of the arrival, as a decision reads them (R69). -/
structure View where
  lo : Nat
  hi : Nat
  quality : Int
  slope : Int
  deriving DecidableEq, Repr

/-- Whether a request is outstanding: REQUESTING or PENDING (R65). -/
def ReqState.busy (st : ReqState) : Bool :=
  match st with
  | .idle => false
  | .requesting _ => true
  | .pending _ _ _ => true

/-- The outstanding request: present in REQUESTING and PENDING (R65). -/
def ReqState.outstanding (st : ReqState) : Option Request :=
  match st with
  | .idle => none
  | .requesting r => some r
  | .pending r _ _ => some r

/-- Issue a request: a new tag, REQUESTING, the request timer at Tr, the counter of its kind (R74). -/
def Requester.issue (q : Requester) (r : Request) : Requester :=
  { q with
    tag := q.tag + 1
    state := .requesting r
    timer := q.tr
    stepIssued := if r.kind = .step then bump q.stepIssued else q.stepIssued
    urgentIssued := if r.kind = .urgent then bump q.urgentIssued else q.urgentIssued }

/-- The highest of the indices `j`, `j - 1`, ..., `lo` whose hold threshold is at or below Q, H_0 taken as 0; `lo` when none
qualifies. `n` counts the indices from `lo` to `j` (R71). -/
def landing (l : Ladder) (quality : Int) (lo : Nat) : Nat → Nat
  | 0 => lo
  | n + 1 => if (l.holdAt (lo + n) : Int) ≤ quality then lo + n else landing l quality lo n

/-- The downshift request that R71 computes for an inbound profile above `lo`: its target and kind. -/
def downshiftRequest (l : Ladder) (gu : Int) (v : View) (k : Nat) : Request :=
  let j := landing l v.quality v.lo (k - v.lo)
  { kind := if k - j ≥ 2 ∨ v.slope ≤ gu then .urgent else .step, target := j }

/-- The downshift condition of R71: k above lo and Q below H_k. -/
def downshiftHolds (l : Ladder) (v : View) (k : Nat) : Bool :=
  decide (v.lo < k) && decide (v.quality < (l.holdAt k : Int))

/-- The upshift rule for an inbound profile below hi (R72). -/
def Requester.upshift (q : Requester) (l : Ladder) (v : View) : Requester × Option Request :=
  if q.holdOff ≠ 0 then ({ q with dwell := 0 }, none)
  else if v.quality < ((l.at (q.inbound + 1)).enter : Int) then ({ q with dwell := 0 }, none)
  else if q.dwell + 1 < q.nu then ({ q with dwell := q.dwell + 1 }, none)
  else
    let r : Request := { kind := .step, target := q.inbound + 1 }
    ({ q with dwell := 0 }.issue r, some r)

/-- A decision in ADAPTIVE mode: out of window, downshift, upshift, in that order (R69). -/
def Requester.decideAdaptive (q : Requester) (l : Ladder) (running : Bool) (v : View) : Requester × Option Request :=
  let k := q.inbound
  let r0 : Requester := { q with dwell := 0 }
  if v.hi < k then
    let r : Request := { kind := .step, target := v.hi }
    (r0.issue r, some r)
  else if running && decide (k < v.lo) then
    let r : Request := { kind := .step, target := v.lo }
    (r0.issue r, some r)
  else if downshiftHolds l v k then
    let r := downshiftRequest l q.gu v k
    ({ r0 with holdOff := q.th }.issue r, some r)
  else if running && decide (k < v.hi) then q.upshift l v
  else (r0, none)

/-- A decision in FIXED mode (R73): the fixed profile clamped into the window, asked for when it differs from k in RUN and when it
lies below k in HOLD. -/
def Requester.decideFixed (q : Requester) (fixed : Nat) (running : Bool) (v : View) : Requester × Option Request :=
  let t := max v.lo (min fixed v.hi)
  let r0 : Requester := { q with dwell := 0 }
  if (running && decide (t ≠ q.inbound)) || decide (t < q.inbound) then
    let r : Request := { kind := .step, target := t }
    (r0.issue r, some r)
  else (r0, none)

/-- Part a: the hold-off timer counts the arrival (R68). -/
def Requester.partA (q : Requester) : Requester := { q with holdOff := q.holdOff - 1 }

/-- Step b1: the taking of an answer whose tag matches while REQUESTING (R80 to R82). -/
def Requester.takeAnswer (q : Requester) (h : RxHeader) : Marked :=
  match q.state with
  | .requesting r =>
    if h.ansTag = q.tag then
      match h.verdict with
      | none => (q, Marks.none)
      | some (.accept g sf) =>
        ({ q with timer := 0, state := if g = q.inbound then .idle else .pending r g sf },
          { Marks.none with answerTaken := true })
      | some .refuse =>
        ({ q with timer := 0, state := .idle, holdOff := q.th, refusals := bump q.refusals },
          { Marks.none with answerTaken := true })
      | some .busy =>
        ({ q with timer := 0, state := .idle, busyAnswers := bump q.busyAnswers },
          { Marks.none with answerTaken := true })
    else (q, Marks.none)
  | _ => (q, Marks.none)

/-- Step b2: the end of PENDING at a header that has reached SF (R83). The flag tells whether PENDING ended here. -/
def endPending (m : Marked) (h : RxHeader) : Marked × Bool :=
  match m.1.state with
  | .pending _ g sf =>
    if reached h.fn sf then
      let q : Requester := { m.1 with state := .idle }
      if h.profile = g then
        ((if m.1.inbound < g then { q with upshifts := bump q.upshifts } else { q with downshifts := bump q.downshifts },
          { m.2 with completed := true }), true)
      else (({ q with mismatches := bump q.mismatches }, { m.2 with mismatch := true }), true)
    else (m, false)
  | _ => (m, false)

/-- Step b3: header authority (R84). A changed inbound profile sets the dwell counter to 0 (R79) and is classified by the request
state; a PENDING that ended in b2 at this header counts nothing more. -/
def headerAuthority (m : Marked) (ended : Bool) (h : RxHeader) : Marked :=
  if h.profile = m.1.inbound then m
  else
    let q : Requester := { m.1 with inbound := h.profile, dwell := 0 }
    match m.1.state with
    | .pending _ _ _ =>
      ({ q with state := .idle, mismatches := bump q.mismatches }, { m.2 with mismatch := true })
    | .requesting _ => ({ q with unsolicited := bump q.unsolicited }, m.2)
    | .idle => (if ended then q else { q with unsolicited := bump q.unsolicited }, m.2)

/-- Part b of an arrival: steps b1, b2 and b3 for a good header, nothing for a bad one (R79). -/
def Requester.partB (q : Requester) (good : Option RxHeader) : Marked :=
  match good with
  | none => (q, Marks.none)
  | some h =>
    let m := endPending (q.takeAnswer h) h
    headerAuthority m.1 m.2 h

/-- A decision taken in IDLE brings the window it reads into use (R34, R98). -/
def Requester.useWindow (q : Requester) (v : View) : Requester := { q with decidedLo := v.lo }

/-- The window by which an outstanding request is checked: that of the last decision taken in IDLE (R98). DEDUCED
(notes/assumptions/28.md): a limit changed since then does not act yet. -/
def Requester.windowInUse (q : Requester) (v : View) : View := { v with lo := q.decidedLo }

/-- Part c: one decision in RUN or HOLD; in another state the dwell counter becomes 0 (R67, R69 to R73). -/
def Requester.partC (q : Requester) (l : Ladder) (x : Control) (v : View) : Requester × Option Request :=
  match x.state with
  | .run =>
    match x.mode with
    | .adaptive => (q.useWindow v).decideAdaptive l true v
    | .fixed => (q.useWindow v).decideFixed x.fixedProfile true v
  | .hold =>
    match x.mode with
    | .adaptive => (q.useWindow v).decideAdaptive l false v
    | .fixed => (q.useWindow v).decideFixed x.fixedProfile false v
  | _ => ({ q with dwell := 0 }, none)

/-- Whether an outstanding request is superseded (R75): ADAPTIVE mode, RUN or HOLD, an outstanding STEP, and a downshift condition
whose kind is URGENT. DEDUCED (notes/assumptions/27.md): with k or the target at or above the ladder length, the stored hold thresholds
of those indices are read as they stand. -/
def Requester.supersedesNow (q : Requester) (l : Ladder) (x : Control) (v : View) : Bool :=
  match q.state.outstanding with
  | none => false
  | some r =>
    decide (r.kind = .step) && decide (x.mode = .adaptive) && x.state.carries && downshiftHolds l v q.inbound &&
      decide ((downshiftRequest l q.gu v q.inbound).kind = .urgent)

/-- Part d: the superseding check (R75), by the window in use (R98). -/
def Requester.partD (q : Requester) (l : Ladder) (x : Control) (v : View) : Requester × Option Request :=
  let r0 : Requester := { q with dwell := 0 }
  let u := q.windowInUse v
  if q.supersedesNow l x u then
    let r := downshiftRequest l q.gu u q.inbound
    ({ r0 with holdOff := q.th, supersedes := bump q.supersedes }.issue r, some r)
  else (r0, none)

/-- Step 3 of an inbound arrival: the Requester's four parts in order (R67). -/
def Requester.arrival (q : Requester) (l : Ladder) (x : Control) (v : View) (good : Option RxHeader) : Marked :=
  let m := q.partA.partB good
  if q.state.busy then
    if m.1.state.busy then
      let d := m.1.partD l x v
      (d.1, { m.2 with issued := d.2 })
    else m
  else
    let d := m.1.partC l x v
    (d.1, { m.2 with issued := d.2 })

/-- Whether the request timer runs out at the next outbound start (R78). -/
def Requester.timerExpires (q : Requester) : Bool :=
  match q.state with
  | .requesting _ => decide (q.timer ≤ 1)
  | _ => false

/-- Step 1 of an outbound frame start: the request timer counts it in REQUESTING, and a timer that reaches 0 abandons the request and
counts a timeout (R78). -/
def Requester.countStart (q : Requester) : Requester :=
  match q.state with
  | .requesting _ =>
    if q.timerExpires then { q.abandon with timeouts := bump q.timeouts } else { q with timer := q.timer - 1 }
  | _ => q

end Sys2Proof.Machine
end

