-- ==== Sys2Proof/Machine/Status.lean ====
section
/-! DEFINITION. The status report (R175, section 13.4), STATUS with clear, and LATCH_CLEAR (R181). Counters occupy 4 bytes, states and
codes 1 byte and other values 2 bytes, but where the layout of a composite field says otherwise (notes/assumptions/11.md). -/

namespace Sys2Proof.Machine

/-- A row of counters, 4 bytes each. -/
def counterBytes (l : List Nat) : List Byte := l.flatMap be32

/-- The request state codes (section 13.4). -/
def reqStateCode (st : ReqState) : Nat :=
  match st with
  | .idle => 0
  | .requesting _ => 1
  | .pending _ _ _ => 2

/-- The capture state codes (section 13.4). -/
def captureCode (st : CaptureState) : Nat :=
  match st with
  | .idle => 0
  | .armed => 1
  | .post => 2
  | .done => 3

/-- The kind and target of the outstanding request; absent in IDLE. -/
def outstandingBytes (st : ReqState) : List Byte :=
  match st.outstanding with
  | some r => byteOf (kindCode r.kind) ++ be16 r.target
  | none => byteOf 0xFF ++ be16 0xFFFF

/-- The pending record: g (1), SF (2). -/
def pendingBytes (st : ReqState) : List Byte :=
  match st with
  | .pending _ g sf => byteOf g ++ be16 sf.toNat
  | _ => byteOf 0xFF ++ be16 0xFFFF

/-- The scheduled switch: g (1), SF (2), tag (1). -/
def scheduledBytes (w : Option Scheduled) : List Byte :=
  match w with
  | some w => byteOf w.granted ++ be16 w.sf.toNat ++ byteOf w.tag.toNat
  | none => byteOf 0xFF ++ be16 0xFFFF ++ byteOf 0xFF

/-- The forced switch: profile (1). -/
def forcedBytes (p : Option Nat) : List Byte :=
  match p with
  | some p => byteOf p
  | none => byteOf 0xFF

/-- The last-answer record: tag (1), verdict (1), granted profile (1), SF (2); absent when its tag is none. -/
def answerBytes (a : Option AnswerRecord) : List Byte :=
  match a with
  | none => byteOf 0xFF ++ byteOf 0xFF ++ byteOf 0xFF ++ be16 0xFFFF
  | some a =>
    byteOf a.tag.toNat ++ byteOf (verdictCode a.verdict) ++
      match a.verdict with
      | .accept g sf => byteOf g ++ be16 sf.toNat
      | .refuse => byteOf 0 ++ be16 0
      | .busy => byteOf 0 ++ be16 0

/-- The cursor: class (1), slots not yet drawn (2). -/
def cursorBytes (cu : Option Cursor) : List Byte :=
  match cu with
  | some cu => byteOf cu.cls.val ++ be16 (slotCount cu.frame - cu.next)
  | none => byteOf 0xFF ++ be16 0xFFFF

/-- The reassembly context: segment count (1), byte count (2). -/
def contextBytes (cx : Option Reassembly) : List Byte :=
  match cx with
  | some cx => byteOf cx.count ++ be16 cx.bytes.length
  | none => byteOf 0xFF ++ be16 0xFFFF

/-- Group 1: identification. -/
def identificationBytes (s : State) : List Byte :=
  be16 Config.partCode ++ [Config.revision] ++ be16 s.agent.addr.toNat ++ be16 s.agent.typeCode.toNat

/-- Group 2: the Alert Unit. -/
def alertBytes (a : Alert) : List Byte := maskBytes a.latches ++ maskBytes a.mask ++ flagByte a.line

/-- The counters of R38. -/
def controlCounters (x : Control) : List Nat := [x.acquisitions, x.fallbacks, x.recoveries, x.ladderMismatches]

/-- The counters of R16. -/
def laneCounters (x : Lane) : List Nat :=
  [x.framesSent, x.framesReceived, x.discardedOff, x.unlocked, x.checkFailures, x.badStatus, x.unreadable, x.formatErrors]

/-- The counters of R77 and R85. -/
def requesterCounters (q : Requester) : List Nat :=
  [q.stepIssued, q.urgentIssued, q.supersedes, q.upshifts, q.downshifts, q.refusals, q.busyAnswers, q.timeouts, q.mismatches,
    q.unsolicited]

/-- The counters of R95. -/
def schedulerCounters (d : Scheduler) : List Nat :=
  [d.requestsTaken, d.acceptSent, d.refuseSent, d.busySent, d.scheduledMade, d.forcedMade]

/-- The counters of R132 that stand per carrier. -/
def distributorCounters (d : Distributor) : List Nat :=
  [d.dataFills, d.idleFills, d.patternFills, d.dataSegments, d.idleSegments]

/-- Group 3 for one carrier: Carrier State Control and the lane. DEDUCED (notes/assumptions/11.md): the freshness counter (R20), a
quantity of 0 to 65,535 and no event counter of 32 bits, is sent as another value of 2 bytes. -/
def controlGroup (k : Carrier) : List Byte :=
  byteOf (statusCode k.control.state) ++ be16 k.control.freshness ++ be16 k.control.acqCount ++
    byteOf (match k.control.mode with | .adaptive => 0 | .fixed => 1) ++
    byteOf (match k.control.recovery with | .auto => 0 | .latch => 1) ++
    counterBytes (controlCounters k.control) ++ counterBytes (laneCounters k.lane)

/-- Group 3 for one carrier: the estimator and the Requester. -/
def requesterGroup (k : Carrier) : List Byte :=
  signed16 k.est.level ++ signed16 k.est.slope ++ signed16 k.est.quality ++ flagByte k.est.firstSample ++
    be16 k.req.inbound ++ byteOf (reqStateCode k.req.state) ++ be16 k.req.tag.toNat ++ outstandingBytes k.req.state ++
    be16 k.req.dwell ++ be16 k.req.holdOff ++ be16 k.req.timer ++ pendingBytes k.req.state ++
    counterBytes (requesterCounters k.req)

/-- Group 3 for one carrier: the Scheduler, the Distributor's counters and the Test Unit. -/
def schedulerGroup (k : Carrier) : List Byte :=
  be16 k.sched.outbound ++ scheduledBytes k.sched.scheduled ++ forcedBytes k.sched.forced ++ answerBytes k.sched.answer ++
    fnBytes k.lane.nf ++ counterBytes (schedulerCounters k.sched) ++ counterBytes (distributorCounters k.dist) ++
    flagByte k.test.sweepActive ++ be16 k.test.sweepStep ++ be16 k.test.sweepCount ++ be16 k.test.dw ++ be32 k.test.discarded

/-- Group 3 for one carrier: the fields of section 13.4 in their order, and the ladder code, which R63 has reported per carrier and
section 13.4 does not list. DESIGN CHOICE (notes/assumptions/25.md): its byte stands behind the carrier's other fields. -/
def carrierBytes (k : Carrier) : List Byte := controlGroup k ++ requesterGroup k ++ schedulerGroup k ++ [k.ladder.code]

/-- The counters of R104. -/
def siteCounters (p : SitePort) : List Nat :=
  [p.fcsErrors, p.shortFrames, p.longFrames, p.accepted, p.diverted, p.egressDelivered]

/-- The counters of R119 of a class; the shed entries counter stands for classes 1 to 3 alone. -/
def classCounterBytes (k : ClassId) (n : ClassCounters) : List Byte :=
  counterBytes [n.admitted, n.shedDrops, n.limitDrops, n.bufferDrops] ++ if k = 0 then [] else be32 n.shedEntries

/-- Group 4: traffic. DEDUCED (notes/assumptions/11.md): the outbound sequence counter (R120), a number of 16 bits and no event counter
of 32 bits, is sent as another value of 2 bytes. -/
def trafficBytes (s : State) : List Byte :=
  counterBytes (siteCounters s.site) ++ counterBytes [s.classifier.drops, s.classifier.defaultFrames] ++
    s.admission.contributions.toList.flatMap be16 ++ be16 s.admission.aggregate ++ s.admission.shed.toList.flatMap flagByte ++
    classCounterBytes 0 s.admission.counters.at0 ++ classCounterBytes 1 s.admission.counters.at1 ++
    classCounterBytes 2 s.admission.counters.at2 ++ classCounterBytes 3 s.admission.counters.at3 ++
    s.queues.occupancy.toList.flatMap be16 ++ be16 s.queues.free ++
    s.queues.frames.toList.flatMap (fun l => be16 l.length) ++ be16 s.queues.seq.toNat ++ cursorBytes s.queues.cursor ++
    be32 s.queues.framesStarted

/-- The counters of R148. -/
def reseqCounters (r : Reseq) : List Nat :=
  [r.stored, r.duplicates, r.late, r.unsyncedDiscards, r.resyncs, r.lateResyncs, r.resyncLosses, r.resyncFrameDiscards,
    r.marksTaken, r.marksIgnored, r.gapExpiries, r.gapPositionsLost, r.lostDelivered, r.partialDiscards, r.oversizeDiscards,
    r.orphans, r.lossDiscards, r.framesToEgress, r.framesToManagement]

/-- Whether a window position holds a lost mark. -/
def isLost (x : Slot) : Bool :=
  match x with
  | .lost => true
  | .segment _ => false

/-- Group 5: the Resequencer; a stopped gap timer is sent as 0. -/
def reseqBytes (r : Reseq) : List Byte :=
  flagByte r.synced ++ be16 r.expected.toNat ++ be16 (r.window.countP (fun p => !isLost p.2)) ++
    be16 (r.window.countP (fun p => isLost p.2)) ++ be16 (r.gap.getD 0) ++ be16 r.lateRun ++ contextBytes r.context ++
    counterBytes (reseqCounters r)

/-- Group 6: History Capture. -/
def historyBytes (y : History) : List Byte :=
  byteOf (captureCode y.state) ++ be16 y.carrier.val ++ byteOf (triggerCode y.trigger) ++ be16 y.post ++ be16 y.ring.length ++
    be16 y.postRecords ++ byteOf (causeCode y.cause)

/-- The counters of R183. -/
def agentCounters (a : Agent) : List Nat :=
  [a.queuedSite, a.queuedRadio, a.queueDrops, a.malformed, a.ignored, a.commandsRun, a.commandsRefused, a.responsesSent]

/-- Group 7: the Management Agent. -/
def agentBytes (a : Agent) : List Byte := be16 a.queue.length ++ counterBytes (agentCounters a)

/-- The status report (R175, section 13.4). -/
def statusReport (s : State) : List Byte :=
  identificationBytes s ++ alertBytes s.alert ++ s.carriers.toList.flatMap carrierBytes ++ trafficBytes s ++
    reseqBytes s.reseq ++ historyBytes s.history ++ agentBytes s.agent

/-! ### STATUS with clear -/

/-- The counters of one carrier cleared (R16, R38, R77, R85, R95, R132, R149). -/
def Carrier.clearCounters (k : Carrier) : Carrier :=
  { k with
    lane :=
      { k.lane with
        framesSent := 0, framesReceived := 0, discardedOff := 0, unlocked := 0, checkFailures := 0, badStatus := 0,
        unreadable := 0, formatErrors := 0 }
    control := { k.control with acquisitions := 0, fallbacks := 0, recoveries := 0, ladderMismatches := 0 }
    req :=
      { k.req with
        stepIssued := 0, urgentIssued := 0, supersedes := 0, upshifts := 0, downshifts := 0, refusals := 0, busyAnswers := 0,
        timeouts := 0, mismatches := 0, unsolicited := 0 }
    sched :=
      { k.sched with
        requestsTaken := 0, acceptSent := 0, refuseSent := 0, busySent := 0, scheduledMade := 0, forcedMade := 0 }
    dist := { k.dist with dataFills := 0, idleFills := 0, patternFills := 0, dataSegments := 0, idleSegments := 0 }
    test := { k.test with discarded := 0 } }

/-- The Flow Table with every hit counter 0 (R118, R119). -/
def Classifier.clearHits (x : Classifier) : Classifier := { x with table := x.table.map (fun e => { e with hits := 0 }) }

/-- The classifier's counters and hit counters cleared (R118, R119). -/
def Classifier.clearCounters (x : Classifier) : Classifier := { x.clearHits with drops := 0, defaultFrames := 0 }

/-- The Resequencer's counters cleared (R148). -/
def Reseq.clearCounters (r : Reseq) : Reseq :=
  { r with
    stored := 0, duplicates := 0, late := 0, unsyncedDiscards := 0, resyncs := 0, lateResyncs := 0, resyncLosses := 0,
    resyncFrameDiscards := 0, marksTaken := 0, marksIgnored := 0, gapExpiries := 0, gapPositionsLost := 0, lostDelivered := 0,
    partialDiscards := 0, oversizeDiscards := 0, orphans := 0, lossDiscards := 0, framesToEgress := 0, framesToManagement := 0 }

/-- The Agent's counters cleared (R183). -/
def Agent.clearCounters (a : Agent) : Agent :=
  { a with
    queuedSite := 0, queuedRadio := 0, queueDrops := 0, malformed := 0, ignored := 0, commandsRun := 0, commandsRefused := 0,
    responsesSent := 0 }

/-- Every latch, and every counter that its chapter names as cleared by STATUS with clear, set to 0 (R175). What stands (states,
occupancies, timers, the result sets) is not changed. -/
def State.clearStatus (s : State) : State :=
  { s with
    carriers := s.carriers.map Carrier.clearCounters
    site := SitePort.reset
    classifier := s.classifier.clearCounters
    admission := { s.admission with counters := Quad.all ClassCounters.zero }
    queues := { s.queues with framesStarted := 0 }
    reseq := s.reseq.clearCounters
    agent := s.agent.clearCounters
    alert := { s.alert with latches := 0 } }

/-- STATUS (R175): clear is NO (0) or YES (1), any other value is refused with RANGE. The report gives the state
that the event before it left, between two draws of a fill as elsewhere (R119), and is built before the clearing. DEDUCED
(notes/assumptions/7.md): what a report inside a fill shows of that fill. -/
def runStatus (clear : Byte) (s : State) : Ran :=
  match clear.toNat with
  | 0 => answer .ok (statusReport s) s
  | 1 => answer .ok (statusReport s) s.clearStatus
  | _ => refuse .range s

/-- LATCH_CLEAR (R181): the data is the state of the latches before the clearing. -/
def runLatchClear (mask : BitVec 32) (s : State) : Ran :=
  answer .ok (maskBytes s.alert.latches) { s with alert := s.alert.clear mask }

end Sys2Proof.Machine
end

