-- ==== Sys2Proof/Machine/Reset.lean ====
section
/-! DEFINITION. The traffic reset (R118, R147), and the events of the RESET pin and of power (R104, R179). -/

namespace Sys2Proof.Machine

/-- The Class Queues emptied and the frame in progress abandoned; the sequence counter is kept (R118, R120). -/
def Queues.trafficReset (q : Queues) : Queues :=
  { q with frames := Quad.all [], occupancy := Quad.all 0, cursor := none }

/-- The admitted frames and drop counters of a class set to 0; the shed entries counter is kept (R118). -/
def ClassCounters.trafficReset (n : ClassCounters) : ClassCounters :=
  { n with admitted := 0, shedDrops := 0, limitDrops := 0, bufferDrops := 0 }

/-- The Resequencer after a traffic reset: Tg and K are kept (R147). -/
def Reseq.trafficReset (r : Reseq) : Reseq :=
  { r.clearCounters with synced := false, expected := 0, window := [], gap := none, lateRun := 0, context := none }

/-- A traffic reset (R118, R147, R179). -/
def State.trafficReset (s : State) : State :=
  { s with
    queues := s.queues.trafficReset
    admission := { s.admission with counters := s.admission.counters.map ClassCounters.trafficReset }
    classifier := s.classifier.clearCounters
    reseq := s.reseq.trafficReset }

/-- RESET with scope TRAFFIC (R179), taken after a fill that is being carried out is completed (R122). -/
def runResetTraffic (s : State) : Ran := answer .ok [] s.completeFill.trafficReset

/-- RESET_LINE_ASSERTION: the RESET pin is driven low, with the levels that stand at ADDR0 to ADDR5, which are sampled (R168, R179). -/
def execResetLineAssertion (addr : BitVec 6) (s : State) : Answer State :=
  .next (State.deviceReset { s with pins := { resetLow := true, addr := addr } })

/-- POWER_ON: the effect of a device reset, with the levels that stand at ADDR0 to ADDR5, which are sampled (R17, R168). The level of
the RESET pin is the board's. -/
def execPowerOn (addr : BitVec 6) (s : State) : Answer State :=
  .next (State.deviceReset { s with pins := { s.pins with addr := addr } })

/-- RESET_LINE_RELEASE: the RESET pin returns high and the held reset ends (R104). -/
def execResetLineRelease (s : State) : Answer State := .next { s with pins := { s.pins with resetLow := false } }

end Sys2Proof.Machine
end

