-- ==== Sys2Proof/Machine/Tables.lean ====
section
/-! DEFINITION. TABLE_WRITE and TABLE_READ of the seven tables (R43, R60 to R62, R109, R111, R113, R155, R176). -/

namespace Sys2Proof.Machine

/-! ### LADDER and LADDER_LENGTH -/

/-- A LADDER entry stored, its fields clamped (R60). -/
def clampLadderEntry (e : LadderEntryRaw) : LadderEntry :=
  { modulation := e.modulation.toNat
    rate := min e.rate.toNat 7
    capacity := min e.capacity.toNat 1023
    enter := min e.enter.toNat 400
    hold := min e.hold.toNat 400 }

/-- Whether a field of a LADDER entry was clamped (R60). -/
def ladderEntryClamped (e : LadderEntryRaw) : Bool :=
  decide (7 < e.rate.toNat) || decide (1023 < e.capacity.toNat) || decide (400 < e.enter.toNat) || decide (400 < e.hold.toNat)

/-- Entries stored in a ladder; its code is recomputed when at least one was (R60, R63). -/
def Ladder.write (l : Ladder) (start : Nat) (entries : List LadderEntryRaw) : Ladder :=
  if entries.isEmpty then l
  else { l with entries := storeFrom l.entries start (entries.map clampLadderEntry) }.recode

/-- TABLE_WRITE to LADDER: the four checks of R60 in their order. -/
def runWriteLadder (b start : Byte) (entries : List LadderEntryRaw) (s : State) : Ran :=
  withCarrier b s (fun c =>
    let k := s.car c
    if k.control.state ≠ .off then refuse .locked s
    else if 12 < start.toNat + entries.length then refuse .range s
    else if entries.any (fun e => decide (9 < e.modulation.toNat)) then refuse .range s
    else if entries.any (fun e => decide (e.capacity.toNat < 1)) then refuse .range s
    else
      answer (okOrClamped (entries.any ladderEntryClamped)) []
        (s.setCar c { k with ladder := k.ladder.write start.toNat entries }))

/-- TABLE_WRITE to LADDER_LENGTH (R61). -/
def runWriteLadderLength (b start : Byte) (values : List Byte) (s : State) : Ran :=
  withCarrier b s (fun c =>
    let k := s.car c
    if k.control.state ≠ .off then refuse .locked s
    else if start.toNat ≠ 0 then refuse .range s
    else
      match values with
      | [] => answer .ok [] s
      | [v] =>
        answer (okOrClamped (decide (12 < v.toNat))) []
          (s.setCar c { k with ladder := { k.ladder with length := min v.toNat 12 }.recode })
      | _ => refuse .range s)

/-! ### CURVE, FLOW, SHED, CLASS_LIMIT -/

/-- TABLE_WRITE to CURVE: values above 400 are stored as 400 (R43). -/
def runWriteCurve (b start : Byte) (values : List (BitVec 16)) (s : State) : Ran :=
  withCarrier b s (fun c =>
    if 17 < start.toNat + values.length then refuse .range s
    else
      answer (okOrClamped (values.any (fun v => decide (400 < v.toNat)))) []
        (s.updCar c (fun k =>
          k.onEst (fun e =>
            { e with curve := storeFrom e.curve start.toNat (values.map (fun v => min v.toNat 400)) }))))

/-- The tag match that a code names (section 13.3). -/
def tagMatchOf (b : Byte) : Option TagMatch :=
  match b.toNat with
  | 0 => some .tagged
  | 1 => some .untagged
  | 2 => some .any
  | _ => none

/-- The action that a code names (section 13.3). -/
def actionOf (b : Byte) : Option FlowAction :=
  match b.toNat with
  | 0 => some .cls
  | 1 => some .drop
  | _ => none

/-- A FLOW entry stored, its fields clamped and its hit counter 0 (R109); the codes have passed their checks. -/
def clampFlowEntry (e : FlowEntryRaw) : FlowEntry :=
  { valid := e.valid.getLsbD 0
    tagMatch := (tagMatchOf e.tagMatch).getD .tagged
    vlanLow := min e.vlanLow.toNat 4095
    vlanHigh := min e.vlanHigh.toNat 4095
    prioLow := min e.prioLow.toNat 7
    prioHigh := min e.prioHigh.toNat 7
    action := (actionOf e.action).getD .cls
    cls := Fin.ofNat 4 (min e.cls.toNat 3)
    hits := 0 }

/-- Whether a field of a FLOW entry was clamped (R109). -/
def flowEntryClamped (e : FlowEntryRaw) : Bool :=
  decide (4095 < e.vlanLow.toNat) || decide (4095 < e.vlanHigh.toNat) || decide (7 < e.prioLow.toNat) ||
    decide (7 < e.prioHigh.toNat) || decide (3 < e.cls.toNat)

/-- TABLE_WRITE to FLOW: the three checks of R109 in their order. -/
def runWriteFlow (start : Byte) (entries : List FlowEntryRaw) (s : State) : Ran :=
  if 64 < start.toNat + entries.length then refuse .range s
  else if entries.any (fun e => (tagMatchOf e.tagMatch).isNone) then refuse .range s
  else if entries.any (fun e => (actionOf e.action).isNone) then refuse .range s
  else
    answer (okOrClamped (entries.any flowEntryClamped)) []
      { s with
        classifier :=
          { s.classifier with table := storeFrom s.classifier.table start.toNat (entries.map clampFlowEntry) } }

/-- The largest value of a position of the SHED table: 255 for Ah at position 0, 4,092 for each Amin (R111). -/
def shedLimit (i : Nat) : Nat := if i = 0 then 255 else 4092

/-- Values for the SHED table from a position on, each clamped to its position's range (R111). -/
def clampShed : Nat → List (BitVec 16) → List Nat
  | _, [] => []
  | i, v :: rest => min v.toNat (shedLimit i) :: clampShed (i + 1) rest

/-- Whether a value for the SHED table was clamped (R111). -/
def shedClamped : Nat → List (BitVec 16) → Bool
  | _, [] => false
  | i, v :: rest => decide (shedLimit i < v.toNat) || shedClamped (i + 1) rest

/-- TABLE_WRITE to SHED: a write that stores at least one value is followed by one shed evaluation (R111). -/
def runWriteShed (start : Byte) (values : List (BitVec 16)) (s : State) : Ran :=
  if 4 < start.toNat + values.length then refuse .range s
  else
    let t := storeQuad s.admission.shedTable start.toNat (clampShed start.toNat values)
    let s' := { s with admission := { s.admission with shedTable := t } }
    answer (okOrClamped (shedClamped start.toNat values)) [] (if values.isEmpty then s else s'.shedEvaluate)

/-- TABLE_WRITE to CLASS_LIMIT (R113). -/
def runWriteClassLimit (start : Byte) (values : List (BitVec 16)) (s : State) : Ran :=
  if 4 < start.toNat + values.length then refuse .range s
  else
    answer (okOrClamped (values.any (fun v => decide (Config.bufferSlots < v.toNat)))) []
      { s with
        admission :=
          { s.admission with
            limits :=
              storeQuad s.admission.limits start.toNat (values.map (fun v => min v.toNat Config.bufferSlots)) } }

/-! ### TABLE_READ -/

/-- The 8 bytes of a LADDER entry (section 13.3). -/
def ladderEntryBytes (e : LadderEntry) : List Byte :=
  byteOf e.modulation ++ byteOf e.rate ++ be16 e.capacity ++ be16 e.enter ++ be16 e.hold

/-- The tag match codes (section 13.3). -/
def tagMatchCode (t : TagMatch) : Nat :=
  match t with
  | .tagged => 0
  | .untagged => 1
  | .any => 2

/-- The 14 bytes of a FLOW entry as read: its fields and its hit counter (section 13.3). -/
def flowEntryBytes (e : FlowEntry) : List Byte :=
  flagByte e.valid ++ byteOf (tagMatchCode e.tagMatch) ++ be16 e.vlanLow ++ be16 e.vlanHigh ++ byteOf e.prioLow ++
    byteOf e.prioHigh ++ byteOf (match e.action with | .cls => 0 | .drop => 1) ++ byteOf e.cls.val ++ be32 e.hits

/-- The 12 bytes of a result row (section 13.3). -/
def resultRowBytes (r : ResultRow) : List Byte := be32 r.checked ++ be32 r.errored ++ be32 r.bitErrors

/-- The positions of the TEST_RESULTS table: twelve rows, then the two counts (R155). -/
def testResults (t : TestUnit) : List (List Byte) :=
  t.rows.toList.map resultRowBytes ++ [be32 t.lostFrames ++ be32 t.nonTest]

/-- The positions of a per-carrier table, each as its bytes (section 13.3). -/
def carrierTable (table : Nat) (k : Carrier) : List (List Byte) :=
  match table with
  | 1 => k.ladder.entries.toList.map ladderEntryBytes
  | 2 => [byteOf k.ladder.length]
  | 3 => k.est.curve.toList.map be16
  | 7 => testResults k.test
  | _ => []

/-- The positions of a device table, each as its bytes (section 13.3). -/
def deviceTable (table : Nat) (s : State) : List (List Byte) :=
  match table with
  | 4 => s.classifier.table.toList.map flowEntryBytes
  | 5 => s.admission.shedTable.toList.map be16
  | 6 => s.admission.limits.toList.map be16
  | _ => []

/-- Positions of a table from a start: RANGE when they exceed the table, otherwise their bytes in order (R176). -/
def readPositions (positions : List (List Byte)) (start count : Byte) (s : State) : Ran :=
  if positions.length < start.toNat + count.toNat then refuse .range s
  else answer .ok ((positions.drop start.toNat).take count.toNat).flatten s

/-- TABLE_READ (R176). -/
def runTableRead (table b start count : Byte) (s : State) : Ran :=
  if readWidth table.toNat = 0 then refuse .unknown s
  else if 4 ≤ table.toNat ∧ table.toNat ≤ 6 then readPositions (deviceTable table.toNat s) start count s
  else withCarrier b s (fun c => readPositions (carrierTable table.toNat (s.car c)) start count s)

end Sys2Proof.Machine
end

