-- ==== Sys2Proof/Machine/Agent.lean ====
section
/-! DEFINITION. The Management Agent (Chapter 11): the checks of a frame and of a command, the running of commands, responses, and one
meaning for each command row of the opcode table. -/

namespace Sys2Proof.Machine

/-! ### One command -/

/-- The data length of a command's response entry on success, which check 3 of R171 measures. Position 12 of TEST_RESULTS is 4
bytes shorter than its rows (section 13.3). An ENABLE that its ladder fails returns two bytes too, and R173 keeps every entry with data
within the body. DEDUCED (notes/assumptions/15.md): what the check measures for a command that its own rule would refuse. -/
def successLength (x : Command) (s : State) : Nat :=
  match x with
  | .status _ => (statusReport s).length
  | .tableRead t _ start n =>
    readWidth t.toNat * n.toNat - (if t.toNat = 7 ∧ start.toNat ≤ 12 ∧ 12 < start.toNat + n.toNat then 4 else 0)
  | .enable b => (runEnable b s).1.data.length
  | .set _ _ _ => 4
  | .get _ _ => 4
  | .testEnter _ _ => 1
  | .sweep _ _ _ => 3
  | .captureRead _ n => 3 + 16 * min n.toNat 32
  | .latchClear _ => 4
  | _ => 0

/-- Run a command: check 4 of R171, the checks of the command's own rule, and its effect. -/
def runCommand (x : Command) (s : State) : Ran :=
  match x with
  | .status clear => runStatus clear s
  | .writeLadder b start l => runWriteLadder b start l s
  | .writeLadderLength b start l => runWriteLadderLength b start l s
  | .writeCurve b start l => runWriteCurve b start l s
  | .writeFlow start l => runWriteFlow start l s
  | .writeShed start l => runWriteShed start l s
  | .writeClassLimit start l => runWriteClassLimit start l s
  | .tableRead t b start n => runTableRead t b start n s
  | .set p b v => runSet p b v s
  | .get p b => runGet p b s
  | .enable b => runEnable b s
  | .disable b => runDisable b s
  | .restart b => runRestart b s
  | .testEnter b p => runTestEnter b p s
  | .testLeave b => runTestLeave b s
  | .clearHold b => runClearHold b s
  | .sweep b start dwell => runSweep b start dwell s
  | .captureArm b t post => runCaptureArm b t post s
  | .captureCancel => runCaptureCancel s
  | .captureRead offset n => runCaptureRead offset n s
  | .latchClear mask => runLatchClear mask s
  | .resetTraffic => runResetTraffic s
  | .resetDevice => answer .ok [] s.deviceReset

/-- The response entry of a command with its data fits: the body's bytes so far, the entry, and 5 bytes for each command that follows
stay within 1,500 (R171 check 3, R173). -/
def entryFits (used data following : Nat) : Bool := decide (used + 5 + data + 5 * following ≤ Config.responseLimit)

/-- A command through the checks of R171 in their order. -/
def checkAndRun (x : Except Result Command) (used following : Nat) (s : State) : Ran :=
  match x with
  | .error r => refuse r s
  | .ok x => if entryFits used (successLength x s) following then runCommand x s else refuse .tooLong s

/-- Whether a result is OK or CLAMPED (R183). -/
def Result.taken (r : Result) : Bool :=
  match r with
  | .ok => true
  | .clamped => true
  | _ => false

/-- A command has returned: its reply is kept, and it is counted as run or refused (R183). -/
def State.returned (s : State) (r : Reply) : State :=
  { s with
    agent :=
      { s.agent with
        reply := some r
        commandsRun := if r.result.taken then bump s.agent.commandsRun else s.agent.commandsRun
        commandsRefused := if r.result.taken then s.agent.commandsRefused else bump s.agent.commandsRefused } }

/-- A command given alone: checked as the only command of a frame, run, and its reply kept. DESIGN CHOICE (notes/assumptions/6.md). -/
def State.runAlone (s : State) (x : Command) : State :=
  let r := checkAndRun (.ok x) 3 0 s
  r.2.returned r.1

/-- The answer of a command row: the command alone, unless the RESET line is held low. -/
def aloneAnswer (x : Command) (s : State) : Answer State := s.unlessHeld (fun s => s.runAlone x)

/-! ### Frames and responses -/

/-- What the checks of R170 make of a frame. -/
inductive FrameCheck where
  | malformed
  | response
  | commands (l : List RawCommand)
  deriving DecidableEq, Repr

/-- The checks of R170 in their order: the body header before the frame check sequence, version 1, the RESPONSE flag clear, every
command entry ending before the frame check sequence. DEDUCED (notes/assumptions/14.md): a body header that does not end before the frame
check sequence is malformed. -/
def checkFrame (f : Frame) : FrameCheck :=
  if f.length < 21 then .malformed
  else if byteAt f 14 ≠ 1#8 then .malformed
  else if (byteAt f 15).getLsbD 0 then .response
  else
    match readCommands (byteAt f 16).toNat ((f.take (f.length - 4)).drop 17) with
    | some l => .commands l
    | none => .malformed

/-- The bytes of a response body so far: its header and its entries (R173). -/
def bodyLength (entries : List ReplyEntry) : Nat := 3 + (entries.flatMap entryBytes).length

/-- The response frame to a command frame: the addresses, the type code that stands, the body, padding to 64 bytes and the frame check
sequence (R173, section 13.3). DEDUCED (notes/assumptions/14.md): the 64 bytes include the frame check sequence. -/
def Agent.response (a : Agent) (f : Frame) (entries : List ReplyEntry) : Frame :=
  let body := [1#8, 1#8] ++ byteOf entries.length ++ entries.flatMap entryBytes
  let head := bytesFrom f 6 6 ++ a.address ++ be16 a.typeCode.toNat ++ body
  let padded := padTo (Config.minFrame - 4) head
  padded ++ fcsBytes padded

/-- The response goes back along the path of its command frame: to egress, or to Class Admission in class 0 (R174). -/
def State.sendResponse (s : State) (side : Side) (f : Frame) : State :=
  match side with
  | .site => s.egress f
  | .radio => s.admitFrame 0 f

/-- The head of the input queue leaves it, and no frame is being executed (R169). -/
def State.popFrame (s : State) : State :=
  { s with agent := { s.agent with queue := s.agent.queue.tail, execution := none } }

/-- When the last command of the frame at the head has been run, the response is built, counted and handed on, and the frame leaves
the queue (R171, R173, R174). -/
def State.finishFrame (s : State) : State :=
  match s.agent.execution, s.agent.queue with
  | some { left := [], entries := l }, q :: _ =>
    let s' := s.popFrame
    { s' with agent := { s'.agent with responsesSent := bump s'.agent.responsesSent } }.sendResponse q.side
      (s.agent.response q.frame l)
  | _, _ => s

/-- The response entries and the commands left after one more command has returned. -/
def State.noteEntry (s : State) (x : Execution) (e : ReplyEntry) : State :=
  { s with agent := { s.agent with execution := some { left := x.left.tail, entries := x.entries ++ [e] } } }

/-- Run at most `n` commands of the frame being executed, in frame order; a RESET with scope DEVICE cuts the frame short (R171,
R179). -/
def State.runCommands (s : State) : Nat → State
  | 0 => s.finishFrame
  | n + 1 =>
    match s.agent.execution with
    | some x =>
      match x.left with
      | raw :: rest =>
        match decodeCommand raw.code raw.args with
        | .ok .resetDevice => s.deviceReset
        | d =>
          let r := checkAndRun d (bodyLength x.entries) rest.length s
          let e : ReplyEntry := { code := raw.code, tag := raw.tag, result := r.1.result, data := r.1.data }
          ((r.2.returned r.1).noteEntry x e).runCommands n
      | [] => s.finishFrame
    | none => s

/-- The frame at the head of the input queue is checked as a whole before any command of it is run (R170). -/
def State.beginFrameExecution (s : State) : State :=
  match s.agent.queue with
  | [] => s
  | q :: _ =>
    match checkFrame q.frame with
    | .malformed =>
      let s' := s.popFrame
      { s' with agent := { s'.agent with malformed := bump s'.agent.malformed } }.signal .mgmtDrop
    | .response =>
      let s' := s.popFrame
      { s' with agent := { s'.agent with ignored := bump s'.agent.ignored } }
    | .commands l => { s with agent := { s.agent with execution := some { left := l, entries := [] } } }

/-- The Agent takes the frame at the head of the input queue, or goes on with the frame it is executing, and runs at most `run` of its
commands before any other event (R171). DESIGN CHOICE (notes/assumptions/5.md). -/
def State.executeFrame (s : State) (run : Nat) : State :=
  (if s.agent.execution.isSome then s else s.beginFrameExecution).runCommands run

/-- MANAGEMENT_FRAME_EXECUTION (R171). -/
def execManagementFrameExecution (run : Nat) (s : State) : Answer State := s.unlessHeld (fun s => s.executeFrame run)

/-! ### The command rows -/

/-- STATUS (R175). -/
def execStatus (clear : Byte) (s : State) : Answer State := aloneAnswer (.status clear) s

/-- TABLE_WRITE_LADDER (R60). -/
def execTableWriteLadder (b start : Byte) (l : List LadderEntryRaw) (s : State) : Answer State :=
  aloneAnswer (.writeLadder b start l) s

/-- TABLE_WRITE_LADDER_LENGTH (R61). -/
def execTableWriteLadderLength (b start : Byte) (l : List Byte) (s : State) : Answer State :=
  aloneAnswer (.writeLadderLength b start l) s

/-- TABLE_WRITE_CURVE (R43). -/
def execTableWriteCurve (b start : Byte) (l : List (BitVec 16)) (s : State) : Answer State := aloneAnswer (.writeCurve b start l) s

/-- TABLE_WRITE_FLOW (R109). -/
def execTableWriteFlow (start : Byte) (l : List FlowEntryRaw) (s : State) : Answer State := aloneAnswer (.writeFlow start l) s

/-- TABLE_WRITE_SHED (R111). -/
def execTableWriteShed (start : Byte) (l : List (BitVec 16)) (s : State) : Answer State := aloneAnswer (.writeShed start l) s

/-- TABLE_WRITE_CLASS_LIMIT (R113). -/
def execTableWriteClassLimit (start : Byte) (l : List (BitVec 16)) (s : State) : Answer State :=
  aloneAnswer (.writeClassLimit start l) s

/-- TABLE_READ (R176). -/
def execTableRead (t b start n : Byte) (s : State) : Answer State := aloneAnswer (.tableRead t b start n) s

/-- SET_ACQUISITION_COUNT_LIMIT (R19). -/
def execSetAcquisitionCountLimit (b : Byte) (v : BitVec 32) (s : State) : Answer State :=
  aloneAnswer (.set .acquisitionCountLimit b v) s

/-- SET_FRESHNESS_LIMIT (R19). -/
def execSetFreshnessLimit (b : Byte) (v : BitVec 32) (s : State) : Answer State := aloneAnswer (.set .freshnessLimit b v) s

/-- SET_RECOVERY (R19). -/
def execSetRecovery (b : Byte) (v : BitVec 32) (s : State) : Answer State := aloneAnswer (.set .recovery b v) s

/-- SET_ADAPTATION_MODE (R33). -/
def execSetAdaptationMode (b : Byte) (v : BitVec 32) (s : State) : Answer State := aloneAnswer (.set .adaptationMode b v) s

/-- SET_FIXED_PROFILE (R33). -/
def execSetFixedProfile (b : Byte) (v : BitVec 32) (s : State) : Answer State := aloneAnswer (.set .fixedProfile b v) s

/-- SET_RX_FLOOR (R34). -/
def execSetRxFloor (b : Byte) (v : BitVec 32) (s : State) : Answer State := aloneAnswer (.set .rxFloor b v) s

/-- SET_RX_CEILING (R34). -/
def execSetRxCeiling (b : Byte) (v : BitVec 32) (s : State) : Answer State := aloneAnswer (.set .rxCeiling b v) s

/-- SET_TX_CEILING (R35, R94). -/
def execSetTxCeiling (b : Byte) (v : BitVec 32) (s : State) : Answer State := aloneAnswer (.set .txCeiling b v) s

/-- SET_BLOCK_PENALTY (R40). -/
def execSetBlockPenalty (b : Byte) (v : BitVec 32) (s : State) : Answer State := aloneAnswer (.set .blockPenalty b v) s

/-- SET_FALL_SHIFT (R40). -/
def execSetFallShift (b : Byte) (v : BitVec 32) (s : State) : Answer State := aloneAnswer (.set .fallShift b v) s

/-- SET_RISE_SHIFT (R40). -/
def execSetRiseShift (b : Byte) (v : BitVec 32) (s : State) : Answer State := aloneAnswer (.set .riseShift b v) s

/-- SET_SLOPE_SHIFT (R40). -/
def execSetSlopeShift (b : Byte) (v : BitVec 32) (s : State) : Answer State := aloneAnswer (.set .slopeShift b v) s

/-- SET_LOOKAHEAD (R40). -/
def execSetLookahead (b : Byte) (v : BitVec 32) (s : State) : Answer State := aloneAnswer (.set .lookahead b v) s

/-- SET_UPSHIFT_DWELL (R66). -/
def execSetUpshiftDwell (b : Byte) (v : BitVec 32) (s : State) : Answer State := aloneAnswer (.set .upshiftDwell b v) s

/-- SET_HOLD_OFF (R66). -/
def execSetHoldOff (b : Byte) (v : BitVec 32) (s : State) : Answer State := aloneAnswer (.set .holdOff b v) s

/-- SET_URGENT_SLOPE (R66). -/
def execSetUrgentSlope (b : Byte) (v : BitVec 32) (s : State) : Answer State := aloneAnswer (.set .urgentSlope b v) s

/-- SET_REQUEST_TIME (R66). -/
def execSetRequestTime (b : Byte) (v : BitVec 32) (s : State) : Answer State := aloneAnswer (.set .requestTime b v) s

/-- SET_STEP_DELAY (R86). -/
def execSetStepDelay (b : Byte) (v : BitVec 32) (s : State) : Answer State := aloneAnswer (.set .stepDelay b v) s

/-- SET_SWEEP_DWELL (R177). -/
def execSetSweepDwell (b : Byte) (v : BitVec 32) (s : State) : Answer State := aloneAnswer (.set .sweepDwell b v) s

/-- SET_DEFAULT_CLASS (R109): a device parameter, whose carrier number is not read. -/
def execSetDefaultClass (v : BitVec 32) (s : State) : Answer State := aloneAnswer (.set .defaultClass 0 v) s

/-- SET_GAP_TIME (R134): a device parameter. -/
def execSetGapTime (v : BitVec 32) (s : State) : Answer State := aloneAnswer (.set .gapTime 0 v) s

/-- SET_LATE_RUN_LIMIT (R134): a device parameter. -/
def execSetLateRunLimit (v : BitVec 32) (s : State) : Answer State := aloneAnswer (.set .lateRunLimit 0 v) s

/-- SET_MANAGEMENT_TYPE_CODE (R168): a device parameter. -/
def execSetManagementTypeCode (v : BitVec 32) (s : State) : Answer State := aloneAnswer (.set .managementTypeCode 0 v) s

/-- SET_ALERT_MASK (R182): a device parameter. -/
def execSetAlertMask (v : BitVec 32) (s : State) : Answer State := aloneAnswer (.set .alertMask 0 v) s

/-- GET (R177). -/
def execGet (p b : Byte) (s : State) : Answer State := aloneAnswer (.get p b) s

/-- CARRIER_ENABLE (R26). -/
def execCarrierEnable (b : Byte) (s : State) : Answer State := aloneAnswer (.enable b) s

/-- CARRIER_DISABLE (R29). -/
def execCarrierDisable (b : Byte) (s : State) : Answer State := aloneAnswer (.disable b) s

/-- CARRIER_RESTART (R28). -/
def execCarrierRestart (b : Byte) (s : State) : Answer State := aloneAnswer (.restart b) s

/-- TEST_ENTER (R31). -/
def execTestEnter (b p : Byte) (s : State) : Answer State := aloneAnswer (.testEnter b p) s

/-- TEST_LEAVE (R32). -/
def execTestLeave (b : Byte) (s : State) : Answer State := aloneAnswer (.testLeave b) s

/-- CLEAR_HOLD (R25). -/
def execClearHold (b : Byte) (s : State) : Answer State := aloneAnswer (.clearHold b) s

/-- SWEEP (R156). -/
def execSweep (b start : Byte) (dwell : Option (BitVec 16)) (s : State) : Answer State := aloneAnswer (.sweep b start dwell) s

/-- CAPTURE_ARM (R164). -/
def execCaptureArm (b t : Byte) (post : BitVec 16) (s : State) : Answer State := aloneAnswer (.captureArm b t post) s

/-- CAPTURE_CANCEL (R164). -/
def execCaptureCancel (s : State) : Answer State := aloneAnswer .captureCancel s

/-- CAPTURE_READ (R166). -/
def execCaptureRead (offset : BitVec 16) (n : Byte) (s : State) : Answer State := aloneAnswer (.captureRead offset n) s

/-- LATCH_CLEAR (R181). -/
def execLatchClear (mask : BitVec 32) (s : State) : Answer State := aloneAnswer (.latchClear mask) s

/-- RESET_TRAFFIC: RESET with scope TRAFFIC (R118, R179). -/
def execResetTraffic (s : State) : Answer State := aloneAnswer .resetTraffic s

/-- RESET_DEVICE: RESET with scope DEVICE: a device reset, no response and no result (R179). -/
def execResetDevice (s : State) : Answer State := s.unlessHeld State.deviceReset

end Sys2Proof.Machine
end

