-- ==== Sys2Proof/Machine/Capture.lean ====
section
/-! DEFINITION. The Test Unit's checker (section 9.3) and History Capture's record of an inbound arrival (Chapter 10). -/

namespace Sys2Proof.Machine

/-- A result row after a frame checked with a number of bit errors (R152). -/
def ResultRow.checkFrame (r : ResultRow) (errors : Nat) : ResultRow :=
  { checked := bump r.checked
    errored := if errors = 0 then r.errored else bump r.errored
    bitErrors := bumpBy r.bitErrors errors }

/-- Step 5 of an inbound arrival at the Test Unit of a carrier in state `st` (R152 to R154). -/
def TestUnit.arrival (t : TestUnit) (st : CarrierState) (l : Ladder) (good : Option RxHeader) (slots : List InboundSlot) :
    TestUnit :=
  match good, decide (st = .test) with
  | none, true => { t with lostFrames := bump t.lostFrames }
  | none, false => t
  | some h, true =>
    if h.isTest then
      if h.unreadable then { t with lostFrames := bump t.lostFrames }
      else
        let cap := (l.at h.profile).capacity
        let errors := testBitErrors cap slots (patternBytes (cap * 68))
        { t with rows := t.rows.setIfInBounds h.profile ((tableAt t.rows h.profile ResultRow.zero).checkFrame errors) }
    else { t with nonTest := bump t.nonTest }
  | some h, false => if h.isTest then { t with discarded := bump t.discarded } else t

/-- What History Capture receives at step 6 of an inbound arrival (R53, R161). -/
structure Observation where
  fn : Option FrameNo
  x : Nat
  sample : Int
  est : Estimator
  inbound : Nat
  marks : Marks
  fallback : Bool

/-- The FN out of order mark: a repeat or a step backwards (R161). -/
def History.outOfOrder (y : History) (fn : Option FrameNo) : Bool :=
  match fn, y.lastFn with
  | some a, some b => !reached a (b + 1)
  | _, _ => false

/-- The record of an arrival, its trigger mark clear (R161). -/
def History.recordOf (y : History) (o : Observation) : Record :=
  { fn := o.fn
    x := o.x
    sample := o.sample
    level := o.est.level
    slope := o.est.slope
    quality := o.est.quality
    inbound := o.inbound
    issued := o.marks.issued
    answerTaken := o.marks.answerTaken
    completed := o.marks.completed
    mismatch := o.marks.mismatch
    fallback := o.fallback
    outOfOrder := y.outOfOrder o.fn
    trigger := false }

/-- Whether the trigger occurs at a record (R162). -/
def triggers (t : Trigger) (r : Record) : Bool :=
  match t with
  | .immediate => true
  | .anyDownshift =>
    match r.issued with
    | some q => decide (q.target < r.inbound)
    | none => false
  | .urgent =>
    match r.issued with
    | some q => decide (q.kind = .urgent)
    | none => false
  | .fallback => r.fallback
  | .mismatch => r.mismatch

/-- Append a record after the newest; with 512 held, the oldest is removed first (R161). -/
def ringAppend (ring : List Record) (r : Record) : List Record :=
  (if Config.ringSize ≤ ring.length then ring.tail else ring) ++ [r]

/-- The record of an arrival written into the ring, with the trigger tested while ARMED and the record counted in POST (R161 to
R163). IDLE and DONE record nothing. -/
def History.write (y : History) (o : Observation) : History :=
  let r := y.recordOf o
  let last := match o.fn with | some n => some n | none => y.lastFn
  match y.state with
  | .armed =>
    if triggers y.trigger r then
      { y with ring := ringAppend y.ring { r with trigger := true }, lastFn := last, state := .post, postRecords := 1 }
    else { y with ring := ringAppend y.ring r, lastFn := last }
  | .post => { y with ring := ringAppend y.ring r, lastFn := last, postRecords := y.postRecords + 1 }
  | .idle => y
  | .done => y

/-- Step 6 of an inbound arrival of carrier `c`: a record of the selected carrier, and DONE when the post records reach the post
count (R161, R163). -/
def State.capture (s : State) (c : CarrierId) (o : Observation) : State :=
  if c = s.history.carrier then
    let y := s.history.write o
    let s' := { s with history := y }
    if decide (y.state = .post) && decide (y.post ≤ y.postRecords) then s'.captureEnds .normal else s'
  else s

end Sys2Proof.Machine
end

