-- ==== Sys2Proof/Machine/Quality.lean ====
section
/-! DEFINITION. The Quality Estimator's handling of one inbound arrival (Chapter 3): calibration, penalty, first sample, level
filter, slope, prediction and decision level, in exact integer arithmetic with floors. -/

namespace Sys2Proof.Machine

/-- A point of the calibration curve. -/
def Estimator.point (e : Estimator) (k : Nat) : Int := (tableAt e.curve k 0 : Nat)

/-- Stage 1: the calibrated sample s (R44). -/
def Estimator.calibrate (e : Estimator) (x : Nat) : Int :=
  let x := min x 1023
  let i := x / 64
  let f := x % 64
  let d := e.point (i + 1) - e.point i
  e.point i + (d * f + 32) / 64

/-- Stage 2: the penalised sample s′, 0 when the lock flag is clear (R45). DEDUCED (notes/assumptions/26.md): with Pb = 255 one block
takes 255 off a sample above 255, as R45 computes it, where the table of R51 says that it takes any sample to 0. -/
def Estimator.penalise (e : Estimator) (lock : Bool) (x b : Nat) : Int :=
  if lock then max 0 (e.calibrate x - e.pb * b) else 0

/-- Stage 4: the level filter toward the target 32 s′ (R47). DEDUCED (notes/assumptions/26.md): with au = 0 a fall still moves by ad, as
R47 computes it, where the table of R51 says that the filter follows every sample in both directions. -/
def Estimator.filter (e : Estimator) (sample : Int) : Int :=
  let d := 32 * sample - e.level
  if d < 0 then e.level + floorShift d e.ad else e.level + floorShift d e.au

/-- Stage 5: the slope, from the level after and before stage 4 (R48). -/
def Estimator.steepen (e : Estimator) (level : Int) : Int :=
  let delta := level - e.level
  clampInt (-2048) 2048 (e.slope + floorShift (delta - e.slope) e.bs)

/-- Stages 6 and 7: the predicted level and the decision level of a level and a slope (R49, R50). -/
def Estimator.decide (e : Estimator) (level slope : Int) : Estimator :=
  let p := clampInt 0 12800 (level + e.lp * min slope 0)
  { e with level := level, slope := slope, predicted := p, quality := p / 32, firstSample := false }

/-- The estimator after an arrival whose penalised sample is given: a first sample loads the level (R46), any other passes
stages 4 and 5 (R42). -/
def Estimator.take (e : Estimator) (sample : Int) : Estimator :=
  if e.firstSample then e.decide (32 * sample) 0
  else e.decide (e.filter sample) (e.steepen (e.filter sample))

/-- One inbound arrival at the estimator (R42). -/
def Estimator.arrival (e : Estimator) (f : InboundFrame) : Estimator := e.take (e.penalise f.lock f.x f.b)

end Sys2Proof.Machine
end

