-- ==== Sys2Proof/Machine/Resequencer.lean ====
section
/-! DEFINITION. The Resequencer (Chapter 8): segment arrivals, loss marks, resync, delivery, the gap timer, reassembly and the handing on
of complete frames. -/

namespace Sys2Proof.Machine

/-- Change the Resequencer alone. -/
def State.onReseq (s : State) (f : Reseq → Reseq) : State := { s with reseq := f s.reseq }

/-! ### The window store -/

/-- The form of the window store: positions strictly rising, all below 4,096 (R133). -/
def windowOk (w : List (Nat × Slot)) : Bool :=
  decide (w.Pairwise (fun a b => a.1 < b.1)) && w.all (fun p => decide (p.1 < Config.windowSize))

/-- What a position holds; none when it is empty. -/
def windowAt (w : List (Nat × Slot)) (d : Nat) : Option Slot := (w.find? (fun p => decide (p.1 = d))).map Prod.snd

/-- Put something into an empty position. -/
def windowPut (d : Nat) (x : Slot) : List (Nat × Slot) → List (Nat × Slot)
  | [] => [(d, x)]
  | p :: rest => if d < p.1 then (d, x) :: p :: rest else p :: windowPut d x rest

/-- Every position moves down by one (R133). -/
def windowShift (w : List (Nat × Slot)) : List (Nat × Slot) := w.map (fun p => (p.1 - 1, p.2))

/-- The positions before the first occupied one: the length of the gap at E (R143). -/
def gapLength (w : List (Nat × Slot)) : Nat :=
  match w with
  | [] => 0
  | p :: _ => p.1

/-- Lost marks in positions 0 to n - 1. -/
def lostRun (n : Nat) : List (Nat × Slot) := (List.range n).map (fun i => (i, Slot.lost))

/-- The gap timer's condition: position 0 is empty and a later position is occupied (R142). -/
def gapStands (w : List (Nat × Slot)) : Bool :=
  match w with
  | [] => false
  | p :: _ => decide (p.1 ≠ 0)

/-- The gap timer re-examined after an event that began with E at `before` (R142). -/
def Reseq.reexamine (r : Reseq) (before : SeqNo) : Reseq :=
  if gapStands r.window then
    match r.gap with
    | none => { r with gap := some r.tg }
    | some v => if r.expected = before then { r with gap := some v } else { r with gap := some r.tg }
  else { r with gap := none }

/-! ### Reassembly -/

/-- A complete frame is recognised by the Management Agent or goes to egress (R146). -/
def State.frameComplete (s : State) (f : Frame) : State :=
  if s.agent.recognises f then
    (s.onReseq (fun r => { r with framesToManagement := bump r.framesToManagement })).enqueue .radio f
  else (s.onReseq (fun r => { r with framesToEgress := bump r.framesToEgress })).egress f

/-- A segment with FIRST set and no frame in progress (R144, second and third rows). -/
def State.beginFrame (s : State) (g : Segment) : State :=
  let bytes := g.payload.take g.count
  if g.last then (s.onReseq (fun r => { r with context := none })).frameComplete bytes
  else s.onReseq (fun r => { r with context := some { count := 1, bytes := bytes } })

/-- A segment handed to reassembly, by the first row of R144 that applies. -/
def State.reassemble (s : State) (g : Segment) : State :=
  match s.reseq.context with
  | some cx =>
    if g.first then (s.onReseq (fun r => { r with partialDiscards := bump r.partialDiscards })).beginFrame g
    else if cx.count < Config.maxFrameSegments then
      let bytes := cx.bytes ++ g.payload.take g.count
      if g.last then (s.onReseq (fun r => { r with context := none })).frameComplete bytes
      else s.onReseq (fun r => { r with context := some { count := cx.count + 1, bytes := bytes } })
    else s.onReseq (fun r => { r with context := none, oversizeDiscards := bump r.oversizeDiscards })
  | none =>
    if g.first then s.beginFrame g else s.onReseq (fun r => { r with orphans := bump r.orphans })

/-- A lost position handed to reassembly discards a frame in progress, with the RESEQ LOSS latch (R145); the lost positions
delivered counter counts it in either case (R141). -/
def State.losePosition (s : State) : State :=
  let s := s.onReseq (fun r => { r with lostDelivered := bump r.lostDelivered })
  match s.reseq.context with
  | some _ => (s.onReseq (fun r => { r with context := none, lossDiscards := bump r.lossDiscards })).signal .reseqLoss
  | none => s

/-- What stood at position 0 is handed to reassembly. -/
def State.handOver (s : State) (x : Slot) : State :=
  match x with
  | .segment g => s.reassemble g
  | .lost => s.losePosition

/-! ### Delivery -/

/-- E advances over position 0, which is emptied, and the window moves down (R141). -/
def Reseq.advance (r : Reseq) (rest : List (Nat × Slot)) : Reseq :=
  { r with window := windowShift rest, expected := r.expected + 1 }

/-- Delivery: while position 0 is occupied it is taken and handed to reassembly, at most `n` of them (R141). -/
def State.deliverUpTo (s : State) : Nat → State
  | 0 => s
  | n + 1 =>
    match s.reseq.window with
    | (0, x) :: rest => ((s.onReseq (fun r => r.advance rest)).handOver x).deliverUpTo n
    | _ => s

/-- Delivery until position 0 is empty (R141): no more positions can be taken than are occupied. -/
def State.deliver (s : State) : State := s.deliverUpTo s.reseq.window.length

/-- Delivery and then the re-examination of the gap timer, after an event that began with E at `before` (R141, R142). -/
def State.deliverFrom (s : State) (before : SeqNo) : State := s.deliver.onReseq (fun r => r.reexamine before)

/-! ### Segments, loss marks, ticks -/

/-- A resync (R139). -/
def Reseq.resync (r : Reseq) : Reseq :=
  { r with
    resyncLosses := bumpBy r.resyncLosses r.window.length
    window := []
    resyncFrameDiscards := if r.context.isSome then bump r.resyncFrameDiscards else r.resyncFrameDiscards
    context := none
    gap := none
    lateRun := 0
    synced := false
    resyncs := bump r.resyncs }

/-- A segment arrival in UNSYNC (R136). -/
def State.segmentUnsynced (s : State) (g : Segment) : State :=
  if g.first then
    (s.onReseq (fun r =>
      { r with expected := g.seq, synced := true, lateRun := 0, window := [(0, Slot.segment g)] })).deliverFrom s.reseq.expected
  else s.onReseq (fun r => { r with unsyncedDiscards := bump r.unsyncedDiscards })

/-- Whether a distance lies behind E (00_scope.md, Conventions; R137). -/
def behind (d : Nat) : Bool := decide (32768 ≤ d)

/-- A late segment (R137, R138): discarded and counted; when the late-run count reaches K, a resync, and the segment is then taken as
in UNSYNC. -/
def State.segmentLate (s : State) (g : Segment) : State :=
  let r := { s.reseq with late := bump s.reseq.late, lateRun := s.reseq.lateRun + 1 }
  if r.k ≤ r.lateRun then
    State.segmentUnsynced { s with reseq := { r.resync with lateResyncs := bump r.lateResyncs } } g
  else { s with reseq := r }

/-- A segment arrival in SYNC, by its distance from E (R137). -/
def State.segmentSynced (s : State) (g : Segment) : State :=
  let d := distance g.seq s.reseq.expected
  if behind d then s.segmentLate g
  else if d < Config.windowSize then
    if (windowAt s.reseq.window d).isSome then
      s.onReseq (fun r => { r with duplicates := bump r.duplicates, lateRun := 0 })
    else
      (s.onReseq (fun r =>
        { r with window := windowPut d (.segment g) r.window, stored := bump r.stored, lateRun := 0 })).deliverFrom
          s.reseq.expected
  else State.segmentUnsynced (s.onReseq Reseq.resync) g

/-- A segment arrival (R136, R137). -/
def State.takeSegment (s : State) (g : Segment) : State :=
  if s.reseq.synced then s.segmentSynced g else s.segmentUnsynced g

/-- A loss mark (R140). -/
def State.takeLoss (s : State) (q : SeqNo) : State :=
  let d := distance q s.reseq.expected
  if s.reseq.synced && decide (d < Config.windowSize) && (windowAt s.reseq.window d).isNone then
    (s.onReseq (fun r =>
      { r with window := windowPut d .lost r.window, marksTaken := bump r.marksTaken })).deliverFrom s.reseq.expected
  else s.onReseq (fun r => { r with marksIgnored := bump r.marksIgnored })

/-- The gap expires: the positions before the first occupied one are marked lost, delivery runs and the timer is re-examined
(R143). -/
def State.gapExpires (s : State) : State :=
  let n := gapLength s.reseq.window
  (s.onReseq (fun r =>
    { r with
      gap := none
      window := lostRun n ++ r.window
      gapExpiries := bump r.gapExpiries
      gapPositionsLost := bumpBy r.gapPositionsLost n })).deliverFrom s.reseq.expected

/-- Whether the next tick brings the gap timer to 0 (R142). -/
def Reseq.expiresNext (r : Reseq) : Bool :=
  match r.gap with
  | some v => decide (v ≤ 1)
  | none => false

/-- A tick of the 100 µs timebase (R142): a running gap timer is decreased, and at 0 the gap expires. -/
def State.tick (s : State) : State :=
  match s.reseq.gap with
  | some v => if v ≤ 1 then s.gapExpires else s.onReseq (fun r => { r with gap := some (v - 1) })
  | none => s

/-! ### Items a lane has handed over -/

/-- The Resequencer takes one item. -/
def State.takeItem (s : State) (i : Item) : State :=
  match i with
  | .segment g => s.takeSegment g
  | .loss q => s.takeLoss q

/-- The items of a carrier that the Resequencer has not yet taken, oldest first (R135). -/
def State.waiting (s : State) (c : CarrierId) : List Item := (s.car c).lane.handover

/-- The oldest waiting item of a carrier leaves its lane. -/
def State.dropItem (s : State) (c : CarrierId) : State :=
  s.updCar c (fun k => { k with lane := { k.lane with handover := k.lane.handover.tail } })

/-- The Resequencer takes the `n` oldest waiting items of a carrier, in slot order (R15, R135). -/
def State.takeItems (s : State) (c : CarrierId) : Nat → State
  | 0 => s
  | n + 1 =>
    match s.waiting c with
    | i :: _ => ((s.dropItem c).takeItem i).takeItems c n
    | [] => s

/-- Whether a segment would complete a late run (R138). -/
def Reseq.completesLateRun (r : Reseq) (g : Segment) : Bool :=
  r.synced && behind (distance g.seq r.expected) && decide (r.k ≤ r.lateRun + 1)

/-- SEGMENT_ARRIVAL: the oldest waiting item of carrier `c` is a segment, and it reaches the Resequencer (R136, R137). Where none
waits, this event does not come about (notes/assumptions/4.md). -/
def execSegmentArrival (c : CarrierId) (s : State) : Answer State :=
  s.unlessHeld (fun s =>
    match s.waiting c with
    | .segment g :: _ => (s.dropItem c).takeSegment g
    | _ => s)

/-- LOSS_MARK: the oldest waiting item of carrier `c` is a loss mark, and it reaches the Resequencer (R140). -/
def execLossMark (c : CarrierId) (s : State) : Answer State :=
  s.unlessHeld (fun s =>
    match s.waiting c with
    | .loss q :: _ => (s.dropItem c).takeLoss q
    | _ => s)

/-- LATE_RESYNC: the oldest waiting item of carrier `c` is a late segment that brings the late-run count to K (R138). -/
def execLateResync (c : CarrierId) (s : State) : Answer State :=
  s.unlessHeld (fun s =>
    match s.waiting c with
    | .segment g :: _ => if s.reseq.completesLateRun g then (s.dropItem c).takeSegment g else s
    | _ => s)

/-- TICK: one tick of the timebase (R142). -/
def execTick (s : State) : Answer State := s.unlessHeld State.tick

/-- GAP_EXPIRY: a tick at which the gap timer reaches 0 (R143). Where the next tick is no such tick, this event does not come about
(notes/assumptions/4.md). -/
def execGapExpiry (s : State) : Answer State := s.unlessHeld (fun s => if s.reseq.expiresNext then s.tick else s)

end Sys2Proof.Machine
end

