-- ==== Sys2Proof/Machine/Lane.lean ====
section
/-! DEFINITION. The Carrier Lane's two events: an outbound frame start (R3) and an inbound frame arrival (R14), with the events that come
about inside them (R20 to R24, R78, R163). -/

namespace Sys2Proof.Machine

/-! ### Outbound frame start -/

/-- The request fields of a header (R7): the outstanding request while REQUESTING, otherwise kind NONE, the current tag and
target 0. -/
def requestFields (q : Requester) : BitVec 2 × Tag × BitVec 4 :=
  match q.state with
  | .requesting r => (BitVec.ofNat 2 (kindCode r.kind), q.tag, BitVec.ofNat 4 r.target)
  | _ => (0, q.tag, 0)

/-- The answer fields of a header (R8): verdict, answer tag, granted profile and SF of the last-answer record. -/
def answerFields (d : Scheduler) : BitVec 2 × Tag × BitVec 4 × FrameNo :=
  match d.answer with
  | none => (0, 0, 0, 0)
  | some a =>
    match a.verdict with
    | .accept g sf => (1, a.tag, BitVec.ofNat 4 g, sf)
    | .refuse => (2, a.tag, 0, 0)
    | .busy => (3, a.tag, 0, 0)

/-- The fields of the header of the frame that a fill record describes, taken from the carrier's state at its start (section
1.5, R7, R8). -/
def Carrier.headerBits (k : Carrier) (r : FillRecord) : HeaderBits :=
  let q := requestFields k.req
  let a := answerFields k.sched
  { status := BitVec.ofNat 4 (statusCode k.control.state)
    fn := r.fn
    profile := BitVec.ofNat 4 r.profile
    target := q.2.2
    ladderCode := k.ladder.code
    kind := q.1
    reqTag := q.2.1
    verdict := a.1
    ansTag := a.2.1
    granted := a.2.2.1
    sf := a.2.2.2
    firstSeq := r.firstSeq
    dataCount := BitVec.ofNat 10 r.dataCount }

/-- The 14 bytes of the header of the frame that a fill record describes (R9, R191). -/
def Carrier.header (k : Carrier) (r : FillRecord) : List Byte := headerBytes (k.headerBits r)

/-- The carrier after the start of frame `n`: the request timer has counted it, the fill record is gone, the start is counted and
the fill of frame n + 2 requested (R3). -/
def Carrier.started (k : Carrier) (n : FrameNo) : Carrier :=
  { k with
    req := k.req.countStart
    lane :=
      { k.lane with
        outCounter := n
        records := k.lane.records.filter (fun r => decide (r.fn ≠ n))
        framesSent := bump k.lane.framesSent }
    dist := { k.dist with request := some (n + 2) } }

/-- The fill record that a lane holds for a frame (R4). -/
def Lane.recordOf (x : Lane) (n : FrameNo) : Option FillRecord := x.records.find? (fun r => decide (r.fn = n))

/-- A lane hands its modem a header and a fill record (R3 step 3). -/
def State.toModem (s : State) (c : CarrierId) (m : ModemFrame) : State :=
  { s with out := { s.out with modem := s.out.modem.upd c (fun l => l ++ [m]) } }

/-- An outbound frame start of a carrier that is not OFF, in the four steps of R3, once its fills are made. -/
def State.startFrame (s : State) (c : CarrierId) : Answer State :=
  let s := s.beforeStart c
  let k := s.car c
  let n := k.lane.outCounter + 1
  match k.lane.recordOf n with
  | none => .fault .noFillRecord
  | some r =>
    .next ((s.setCar c (k.started n)).toModem c { header := { k with req := k.req.countStart }.header r, record := r })

/-- An outbound frame start (R3): ignored while the carrier is OFF. -/
def State.outboundStart (s : State) (c : CarrierId) : Answer State :=
  if s.pins.resetLow then .next s
  else if (s.car c).control.state = .off then .next s
  else s.startFrame c

/-- OUTBOUND_FRAME_START of carrier `c` (R3). -/
def execOutboundFrameStart (c : CarrierId) (s : State) : Answer State := s.outboundStart c

/-- REQUEST_TIMER_EXPIRY: an outbound start of carrier `c` at which its request timer reaches 0 (R78). Where the next start is no
such start, this event does not come about (notes/assumptions/4.md). -/
def execRequestTimerExpiry (c : CarrierId) (s : State) : Answer State :=
  if (s.car c).req.timerExpires then s.outboundStart c else .next s

/-! ### Inbound frame arrival: the header judged -/

/-- Why a header is bad, under the first failing condition (R12). -/
inductive BadHeader where
  | unlocked
  | checkFailure
  | badStatus
  deriving DecidableEq, Repr

/-- The judgement of an inbound header against a local ladder of length `len`: a good header with its values reduced, or the first
condition that fails (R12, R13). -/
def judgeHeader (len : Nat) (f : InboundFrame) : Except BadHeader RxHeader :=
  match f.lock, f.header with
  | true, some l =>
    if headerCheckGood l then
      match statusOf (readHeaderBody l).status with
      | some st => .ok (reduceHeader len st (readHeaderBody l))
      | none => .error .badStatus
    else .error .checkFailure
  | _, _ => .error .unlocked

/-- The good header of a judgement. -/
def goodOf (j : Except BadHeader RxHeader) : Option RxHeader :=
  match j with
  | .ok h => some h
  | .error _ => none

/-- The lane counts an arrival taken in a state other than OFF: the frame, its bad header under the failing condition, or its
unreadable payload (R11 to R13, R16). -/
def Lane.countArrival (x : Lane) (j : Except BadHeader RxHeader) : Lane :=
  let x := { x with framesReceived := bump x.framesReceived }
  match j with
  | .error .unlocked => { x with unlocked := bump x.unlocked }
  | .error .checkFailure => { x with checkFailures := bump x.checkFailures }
  | .error .badStatus => { x with badStatus := bump x.badStatus }
  | .ok h => if h.unreadable then { x with unreadable := bump x.unreadable } else x

/-! ### Step 1: Carrier State Control -/

/-- The freshness counter after an arrival (R20). -/
def Control.freshen (x : Control) (good : Option RxHeader) : Control :=
  { x with freshness := match good with | some _ => 0 | none => min (x.freshness + 1) Config.freshnessMax }

/-- The carrier in ACQUIRE after an arrival: the ladder code is compared before the status is looked at (R21). -/
def Carrier.hearAcquire (k : Carrier) (good : Option RxHeader) : Carrier :=
  match good with
  | none => { k with control := { k.control with acqCount := 0 } }
  | some h =>
    if h.ladderCode ≠ k.ladder.code then
      { k with control := { k.control with acqCount := 0, ladderMismatches := bump k.control.ladderMismatches } }
    else if h.status = .test then { k with control := { k.control with acqCount := 0 } }
    else if k.control.na ≤ k.control.acqCount + 1 then
      { k with control := { k.control with acquisitions := bump k.control.acquisitions } }.enterRun
    else { k with control := { k.control with acqCount := k.control.acqCount + 1 } }

/-- The carrier in FALLBACK after an arrival: the ladder code is not compared (R24). -/
def Carrier.hearFallback (k : Carrier) (good : Option RxHeader) : Carrier :=
  match good with
  | none => { k with control := { k.control with acqCount := 0 } }
  | some h =>
    if h.status = .test then { k with control := { k.control with acqCount := 0 } }
    else if k.control.na ≤ k.control.acqCount + 1 then
      let k := { k with control := { k.control with recoveries := bump k.control.recoveries } }
      match k.control.recovery with
      | .auto => k.enterRun
      | .latch => { k with control := k.control.enter .hold }
    else { k with control := { k.control with acqCount := k.control.acqCount + 1 } }

/-- The carrier after step 1 of an arrival: freshness first, then the state's own rule (R20, R21, R23, R24). -/
def Carrier.hear (k : Carrier) (good : Option RxHeader) : Carrier :=
  let k := { k with control := k.control.freshen good }
  match k.control.state with
  | .run => if k.control.tf ≤ k.control.freshness then k.enterFallback else k
  | .hold => if k.control.tf ≤ k.control.freshness then k.enterFallback else k
  | .acquire => k.hearAcquire good
  | .fallback => k.hearFallback good
  | .test => k
  | .off => k

/-- Whether a carrier enters FALLBACK at an arrival (R23). -/
def Carrier.fallsBack (k : Carrier) (good : Option RxHeader) : Bool :=
  k.control.state.carries && decide (k.control.tf ≤ (k.control.freshen good).freshness)

/-- Whether an arrival finds a different ladder code in ACQUIRE (R21). -/
def Carrier.ladderDiffers (k : Carrier) (good : Option RxHeader) : Bool :=
  match good with
  | some h => decide (k.control.state = .acquire) && decide (h.ladderCode ≠ k.ladder.code)
  | none => false

/-- Step 1 of an inbound arrival with its latches and contribution signal (R21, R23, R37). -/
def State.hear (s : State) (c : CarrierId) (good : Option RxHeader) : State :=
  let k := s.car c
  (((s.setCar c (k.hear good)).signalIf (k.ladderDiffers good) (.ladderMismatch c)).signalIf (k.fallsBack good)
    (.fallback c)).signalContribution c

/-! ### Steps 2 to 6 -/

/-- The window and the estimator's values as the Requester reads them (R36, R52). -/
def Carrier.view (k : Carrier) : View :=
  { lo := k.rxLow, hi := k.rxHigh, quality := k.est.quality, slope := k.est.slope }

/-- Steps 2 and 3: the estimator, then the Requester with its marks (R42, R67). -/
def Carrier.estimateAndRequest (k : Carrier) (f : InboundFrame) (good : Option RxHeader) : Carrier × Marks :=
  let k := { k with est := k.est.arrival f }
  let m := k.req.arrival k.ladder k.control k.view good
  ({ k with req := m.1 }, m.2)

/-- Step 4: the Scheduler; it reads Nf, which a carrier that is not OFF has (R87 to R89; notes/assumptions/19.md). -/
def Carrier.scheduleStep (k : Carrier) (good : Option RxHeader) : Carrier :=
  { k with
    sched := k.sched.arrival (decide (k.control.state = .run)) (k.lane.nf.getD 0) k.txCeil good }

/-- Step 5: the Test Unit (R152 to R154). -/
def Carrier.testStep (k : Carrier) (f : InboundFrame) (good : Option RxHeader) : Carrier :=
  { k with test := k.test.arrival k.control.state k.ladder good f.slots }

/-! ### Step 7: what the Resequencer receives -/

/-- The items of the slots from position `p`, at most `n` of them, with the number of slots that fail the segment check (R15). -/
def slotItems (readable : Bool) (first : SeqNo) : Nat → Nat → List InboundSlot → List Item × Nat
  | 0, _, _ => ([], 0)
  | _ + 1, _, [] => ([], 0)
  | n + 1, p, sl :: rest =>
    let r := slotItems readable first n (p + 1) rest
    if readable && sl.valid then
      let g := readSegment sl.bytes
      if g.wellFormed then (Item.segment g :: r.1, r.2)
      else (Item.loss (first + BitVec.ofNat 16 p) :: r.1, r.2 + 1)
    else (Item.loss (first + BitVec.ofNat 16 p) :: r.1, r.2)

/-- The slots that the lane walks: those handed over, but none beyond the local ladder's capacity of the payload profile, since slots
beyond it are not read (R184). Where the payload is unreadable the ladder has no capacity to compare. DEDUCED (notes/assumptions/17.md):
the lane leaves out such slots also when a modem hands them over. -/
def readSlots (l : Ladder) (h : RxHeader) (slots : List InboundSlot) : List InboundSlot :=
  if h.unreadable then slots else slots.take (l.at h.profile).capacity

/-- The items of an inbound frame and its segment format errors (R15): nothing for a bad header and for a test frame, otherwise the
slots below the data count and the number of slots. -/
def frameItems (l : Ladder) (good : Option RxHeader) (slots : List InboundSlot) : List Item × Nat :=
  match good with
  | none => ([], 0)
  | some h =>
    if h.isTest then ([], 0) else slotItems (!h.unreadable) h.firstSeq h.dataCount 0 (readSlots l h slots)

/-- Step 7: the lane hands the items over to the Resequencer, behind any that still wait (R14, R135). -/
def Carrier.handOver (k : Carrier) (w : List Item × Nat) : Carrier :=
  { k with
    lane :=
      { k.lane with
        handover := k.lane.handover ++ w.1
        formatErrors := bumpBy k.lane.formatErrors w.2 } }

/-! ### The whole arrival -/

/-- What History Capture observes of an arrival: `old` is the carrier before step 2, `k` the carrier after step 4 (R53, R161). -/
def observationOf (old k : Carrier) (f : InboundFrame) (good : Option RxHeader) (m : Marks) (fell : Bool) : Observation :=
  { fn := good.map RxHeader.fn
    x := f.x
    sample := old.est.penalise f.lock f.x f.b
    est := k.est
    inbound := k.req.inbound
    marks := m
    fallback := fell }

/-- The latches of step 3: MISMATCH and URGENT (R74, R83, R84). -/
def State.signalMarks (s : State) (c : CarrierId) (m : Marks) : State :=
  (s.signalIf m.mismatch (.mismatch c)).signalIf
    (match m.issued with | some r => decide (r.kind = .urgent) | none => false) (.urgent c)

/-- An arrival taken in a state other than OFF, its header judged: the steps of R14 in their order. -/
def State.arrivalSteps (s : State) (c : CarrierId) (f : InboundFrame) (good : Option RxHeader) : State :=
  let fell := (s.car c).fallsBack good
  let s1 := s.hear c good
  let k1 := s1.car c
  let e := k1.estimateAndRequest f good
  let k5 := (e.1.scheduleStep good).testStep f good
  let s5 := (s1.setCar c k5).signalMarks c e.2
  let s6 := s5.capture c (observationOf k1 k5 f good e.2 fell)
  s6.updCar c (fun k => k.handOver (frameItems k.ladder good f.slots))

/-- An inbound frame arrival (R11, R14): discarded and counted in OFF; otherwise counted, judged and handled, after which the
Resequencer takes `taken` of the items that wait before any other event. -/
def State.inbound (s : State) (c : CarrierId) (f : InboundFrame) (taken : Nat) : State :=
  let k := s.car c
  if k.control.state = .off then
    s.setCar c { k with lane := { k.lane with discardedOff := bump k.lane.discardedOff } }
  else
    let j := judgeHeader k.ladder.length f
    ((s.setCar c { k with lane := k.lane.countArrival j }).arrivalSteps c f (goodOf j)).takeItems c taken

/-- An inbound frame arrival as it is taken: after a fill of its carrier that is being carried out is completed (R122). -/
def State.arrive (s : State) (c : CarrierId) (f : InboundFrame) (taken : Nat) : State := (s.completeFillOf c).inbound c f taken

/-- INBOUND_FRAME_ARRIVAL of carrier `c` (R14). -/
def execInboundFrameArrival (c : CarrierId) (f : InboundFrame) (taken : Nat) (s : State) : Answer State :=
  s.unlessHeld (fun s => s.arrive c f taken)

/-- FALLBACK_ENTRY: an inbound arrival at which the freshness counter reaches Tf in RUN or HOLD (R23). Where the arrival given is
no such arrival, this event does not come about (notes/assumptions/4.md). -/
def execFallbackEntry (c : CarrierId) (f : InboundFrame) (taken : Nat) (s : State) : Answer State :=
  s.unlessHeld (fun s =>
    let t := s.arrive c f taken
    if (s.car c).control.state.carries && decide ((t.car c).control.state = .fallback) then t else s)

/-- ACQUISITION: an inbound arrival at which the acquisition count reaches Na in ACQUIRE (R21). -/
def execAcquisition (c : CarrierId) (f : InboundFrame) (taken : Nat) (s : State) : Answer State :=
  s.unlessHeld (fun s =>
    let t := s.arrive c f taken
    if decide ((s.car c).control.state = .acquire) && decide ((t.car c).control.state = .run) then t else s)

/-- RECOVERY: an inbound arrival at which the acquisition count reaches Na in FALLBACK (R24). -/
def execRecovery (c : CarrierId) (f : InboundFrame) (taken : Nat) (s : State) : Answer State :=
  s.unlessHeld (fun s =>
    let t := s.arrive c f taken
    if decide ((s.car c).control.state = .fallback) && (t.car c).control.state.carries then t else s)

/-- CAPTURE_DONE: an inbound arrival at which the post records reach the post count (R163). -/
def execCaptureDone (c : CarrierId) (f : InboundFrame) (taken : Nat) (s : State) : Answer State :=
  s.unlessHeld (fun s =>
    let t := s.arrive c f taken
    if decide (s.history.state ≠ .done) && decide (t.history.state = .done) then t else s)

end Sys2Proof.Machine
end

