-- ==== Sys2Proof/Machine/SitePort.lean ====
section
/-! DEFINITION. The Site Port's ingress and the Flow Classifier (sections 6.1 and 6.2). -/

namespace Sys2Proof.Machine

/-- What the classifier reads of a frame: the VLAN number and priority of a tagged frame, nothing of an untagged one (R105). -/
structure VlanTag where
  vlan : Nat
  prio : Nat
  deriving DecidableEq, Repr

/-- The tag of a frame: bytes 12 and 13 hold 0x8100; priority in the three most significant bits of byte 14, VLAN number in
its four least significant bits and byte 15 (R105). -/
def readTag (f : Frame) : Option VlanTag :=
  if word16 (byteAt f 12) (byteAt f 13) = BitVec.ofNat 16 Config.vlanTagId then
    some
      { vlan := ((byteAt f 14).extractLsb' 0 4 ++ byteAt f 15).toNat
        prio := ((byteAt f 14).extractLsb' 5 3).toNat }
  else none

/-- A Flow Table entry matches a frame (R107). -/
def FlowEntry.hits? (e : FlowEntry) (t : Option VlanTag) : Bool :=
  e.valid && decide (e.vlanLow ≤ e.vlanHigh) && decide (e.prioLow ≤ e.prioHigh) &&
    match t with
    | some t =>
      decide (e.tagMatch ≠ .untagged) && decide (e.vlanLow ≤ t.vlan) && decide (t.vlan ≤ e.vlanHigh) &&
        decide (e.prioLow ≤ t.prio) && decide (t.prio ≤ e.prioHigh)
    | none => decide (e.tagMatch ≠ .tagged)

/-- The index and entry of the first entry that matches, searching from index `i` (R108). -/
def firstHit (t : Option VlanTag) (i : Nat) : List FlowEntry → Option (Nat × FlowEntry)
  | [] => none
  | e :: rest => if e.hits? t then some (i, e) else firstHit t (i + 1) rest

/-- The hit counter of the deciding entry is increased by one (R108). -/
def Classifier.countHit (x : Classifier) (i : Nat) (e : FlowEntry) : Classifier :=
  { x with table := x.table.setIfInBounds i { e with hits := bump e.hits } }

/-- The classification of an ordinary ingress frame: the first matching entry decides, otherwise the default class (R108). -/
def State.classify (s : State) (f : Frame) : State :=
  match firstHit (readTag f) 0 s.classifier.table.toList with
  | some (i, e) =>
    let x := s.classifier.countHit i e
    match e.action with
    | .cls => { s with classifier := x }.admitFrame e.cls f
    | .drop => { s with classifier := { x with drops := bump x.drops } }
  | none =>
    let x := s.classifier
    { s with classifier := { x with defaultFrames := bump x.defaultFrames } }.admitFrame x.defaultClass f

/-- A frame that passed the ingress checks: diverted to the Management Agent when it recognises it, classified otherwise (R102). -/
def State.acceptIngress (s : State) (f : Frame) : State :=
  let s := { s with site := { s.site with accepted := bump s.site.accepted } }
  if s.agent.recognises f then
    { s with site := { s.site with diverted := bump s.site.diverted } }.enqueue .site f
  else s.classify f

/-- The ingress checks in their order; the first that fails drops the frame (R101). -/
def State.ingress (s : State) (f : Frame) : State :=
  if !fcsGood f then { s with site := { s.site with fcsErrors := bump s.site.fcsErrors } }
  else if f.length < Config.minFrame then { s with site := { s.site with shortFrames := bump s.site.shortFrames } }
  else if Config.maxFrame < f.length then { s with site := { s.site with longFrames := bump s.site.longFrames } }
  else s.acceptIngress f

/-- INGRESS_FRAME_ARRIVAL (R101). A frame that was already arriving before the RESET line was released is lost (R104). -/
def execIngressFrameArrival (f : IngressFrame) (s : State) : Answer State :=
  s.unlessHeld (fun s => if f.whole then s.ingress f.bytes else s)

end Sys2Proof.Machine
end

