-- ==== Sys2Proof/Machine/Dispatch.lean ====
section
/-! DEFINITION. One arm for each command of the block, each a direct call of its meaning. -/

namespace Sys2Proof.Machine

def exec (i : Instr) (s : State) : Host.Outcome State Fault Refusal :=
  match i with
  | .outboundFrameStart cr => Sys2Proof.Machine.execOutboundFrameStart cr s
  | .requestTimerExpiry cr => Sys2Proof.Machine.execRequestTimerExpiry cr s
  | .fill => Sys2Proof.Machine.execFill s
  | .inboundFrameArrival cr f taken => Sys2Proof.Machine.execInboundFrameArrival cr f taken s
  | .fallbackEntry cr f taken => Sys2Proof.Machine.execFallbackEntry cr f taken s
  | .acquisition cr f taken => Sys2Proof.Machine.execAcquisition cr f taken s
  | .recovery cr f taken => Sys2Proof.Machine.execRecovery cr f taken s
  | .captureDone cr f taken => Sys2Proof.Machine.execCaptureDone cr f taken s
  | .segmentArrival cr => Sys2Proof.Machine.execSegmentArrival cr s
  | .lossMark cr => Sys2Proof.Machine.execLossMark cr s
  | .lateResync cr => Sys2Proof.Machine.execLateResync cr s
  | .tick => Sys2Proof.Machine.execTick s
  | .gapExpiry => Sys2Proof.Machine.execGapExpiry s
  | .ingressFrameArrival f => Sys2Proof.Machine.execIngressFrameArrival f s
  | .managementFrameExecution run => Sys2Proof.Machine.execManagementFrameExecution run s
  | .status clear => Sys2Proof.Machine.execStatus clear s
  | .tableWriteLadder carrier start entries => Sys2Proof.Machine.execTableWriteLadder carrier start entries s
  | .tableWriteLadderLength carrier start values => Sys2Proof.Machine.execTableWriteLadderLength carrier start values s
  | .tableWriteCurve carrier start values => Sys2Proof.Machine.execTableWriteCurve carrier start values s
  | .tableWriteFlow start entries => Sys2Proof.Machine.execTableWriteFlow start entries s
  | .tableWriteShed start values => Sys2Proof.Machine.execTableWriteShed start values s
  | .tableWriteClassLimit start values => Sys2Proof.Machine.execTableWriteClassLimit start values s
  | .tableRead table carrier start count => Sys2Proof.Machine.execTableRead table carrier start count s
  | .setAcquisitionCountLimit carrier value => Sys2Proof.Machine.execSetAcquisitionCountLimit carrier value s
  | .setFreshnessLimit carrier value => Sys2Proof.Machine.execSetFreshnessLimit carrier value s
  | .setRecovery carrier value => Sys2Proof.Machine.execSetRecovery carrier value s
  | .setAdaptationMode carrier value => Sys2Proof.Machine.execSetAdaptationMode carrier value s
  | .setFixedProfile carrier value => Sys2Proof.Machine.execSetFixedProfile carrier value s
  | .setRxFloor carrier value => Sys2Proof.Machine.execSetRxFloor carrier value s
  | .setRxCeiling carrier value => Sys2Proof.Machine.execSetRxCeiling carrier value s
  | .setTxCeiling carrier value => Sys2Proof.Machine.execSetTxCeiling carrier value s
  | .setBlockPenalty carrier value => Sys2Proof.Machine.execSetBlockPenalty carrier value s
  | .setFallShift carrier value => Sys2Proof.Machine.execSetFallShift carrier value s
  | .setRiseShift carrier value => Sys2Proof.Machine.execSetRiseShift carrier value s
  | .setSlopeShift carrier value => Sys2Proof.Machine.execSetSlopeShift carrier value s
  | .setLookahead carrier value => Sys2Proof.Machine.execSetLookahead carrier value s
  | .setUpshiftDwell carrier value => Sys2Proof.Machine.execSetUpshiftDwell carrier value s
  | .setHoldOff carrier value => Sys2Proof.Machine.execSetHoldOff carrier value s
  | .setUrgentSlope carrier value => Sys2Proof.Machine.execSetUrgentSlope carrier value s
  | .setRequestTime carrier value => Sys2Proof.Machine.execSetRequestTime carrier value s
  | .setStepDelay carrier value => Sys2Proof.Machine.execSetStepDelay carrier value s
  | .setSweepDwell carrier value => Sys2Proof.Machine.execSetSweepDwell carrier value s
  | .setDefaultClass value => Sys2Proof.Machine.execSetDefaultClass value s
  | .setGapTime value => Sys2Proof.Machine.execSetGapTime value s
  | .setLateRunLimit value => Sys2Proof.Machine.execSetLateRunLimit value s
  | .setManagementTypeCode value => Sys2Proof.Machine.execSetManagementTypeCode value s
  | .setAlertMask value => Sys2Proof.Machine.execSetAlertMask value s
  | .get param carrier => Sys2Proof.Machine.execGet param carrier s
  | .carrierEnable carrier => Sys2Proof.Machine.execCarrierEnable carrier s
  | .carrierDisable carrier => Sys2Proof.Machine.execCarrierDisable carrier s
  | .carrierRestart carrier => Sys2Proof.Machine.execCarrierRestart carrier s
  | .testEnter carrier profile => Sys2Proof.Machine.execTestEnter carrier profile s
  | .testLeave carrier => Sys2Proof.Machine.execTestLeave carrier s
  | .clearHold carrier => Sys2Proof.Machine.execClearHold carrier s
  | .sweep carrier start dwell => Sys2Proof.Machine.execSweep carrier start dwell s
  | .sweepStep => Sys2Proof.Machine.execSweepStep s
  | .captureArm carrier trigger post => Sys2Proof.Machine.execCaptureArm carrier trigger post s
  | .captureCancel => Sys2Proof.Machine.execCaptureCancel s
  | .captureRead offset count => Sys2Proof.Machine.execCaptureRead offset count s
  | .latchClear mask => Sys2Proof.Machine.execLatchClear mask s
  | .resetTraffic => Sys2Proof.Machine.execResetTraffic s
  | .resetDevice => Sys2Proof.Machine.execResetDevice s
  | .resetLineAssertion addr => Sys2Proof.Machine.execResetLineAssertion addr s
  | .powerOn addr => Sys2Proof.Machine.execPowerOn addr s
  | .resetLineRelease => Sys2Proof.Machine.execResetLineRelease s

end Sys2Proof.Machine
end

