-- ==== Sys2Proof/Safety.lean ====
section
/-! DEFINITION. What counts as a sound state of the part, in the terms that claims use: the forms that the rules give its stores, its
fill leads, its switches, its settings and its levels, and the outcomes of a safe step. -/

namespace Sys2Proof.Machine

/-- The RESET line is not held low, so that events are taken. -/
abbrev State.live (s : State) : Prop := s.pins.resetLow = false

/-! ### Stores -/

/-- The slots of the frame in progress that are not yet drawn, for one class (R115, R120). -/
def Queues.inProgress (q : Queues) (k : ClassId) : Nat :=
  match q.cursor with
  | some cu => if cu.cls = k then slotCount cu.frame - cu.next else 0
  | none => 0

/-- The occupancy of each class is the number of slots that its queued frames and its frame in progress hold, every queued frame has a
slot to draw, and a frame in progress has drawn its first slot and not its last (R113, R115, R129). -/
abbrev Queues.heldOk (q : Queues) : Prop :=
  (∀ k : ClassId, ∀ f ∈ q.frames.get k, 1 ≤ slotCount f) ∧ (∀ cu ∈ q.cursor, 1 ≤ cu.next ∧ cu.next < slotCount cu.frame) ∧
    ∀ k : ClassId, q.occupancy.get k = ((q.frames.get k).map slotCount).sum + q.inProgress k

/-- The segments drawn so far for a fill that is being carried out are data segments, and bear the numbers one after the other that end
at the sequence counter, since no other fill draws meanwhile (R121, R126). -/
abbrev State.drawnOk (s : State) : Prop :=
  ∀ w ∈ s.filling,
    w.drawn.all (fun g => !g.idle) = true ∧
      w.drawn.map Segment.seq =
        (List.range w.drawn.length).map (fun i => s.queues.seq - BitVec.ofNat 16 w.drawn.length + BitVec.ofNat 16 i)

/-- The response being made keeps within 1,500 bytes of body: what is in it, and 5 bytes for each command left (R173). -/
abbrev Agent.responseOk (a : Agent) : Prop := ∀ x ∈ a.execution, bodyLength x.entries + 5 * x.left.length ≤ 1500

/-- The stores of the device keep their forms: the window store lists distinct positions below 4,096 in rising order (R133), the
ring holds at most 512 records (R161), the input queue at most four frames (R169), the response being made stays within its limit (R173),
the occupancies count the slots held and never more than 16,384 of them (R113), the segments of a fill being carried out are numbered in
order (R126), and class 0 is never shed (R112). -/
abbrev State.storesOk (s : State) : Prop :=
  windowOk s.reseq.window = true ∧ s.history.ring.length ≤ 512 ∧ s.agent.queue.length ≤ 4 ∧ s.agent.responseOk ∧
    s.queues.heldOk ∧ s.queues.occupancy.sum ≤ 16384 ∧ s.drawnOk ∧ s.admission.shed.at0 = false

/-! ### Fill lead, lock and switches of the carriers -/

/-- The lock is set exactly while the carrier is in a state other than OFF (R58). -/
abbrev Carrier.lockOk (k : Carrier) : Prop := k.ladder.locked = decide (k.control.state ≠ .off)

/-- The frame of a carrier whose fill is due: the one that is being filled, or the one that its standing request asks for. -/
def State.dueFrame (s : State) (c : CarrierId) : Option FrameNo :=
  match s.filling with
  | some w => if w.carrier = c then some w.fn else (s.car c).dist.request
  | none => (s.car c).dist.request

/-- The fill lead of two frames (R1, R4): an OFF carrier holds no fill record, no Nf, no fill that is due and no profile table; any other
holds the record of the next frame alone and Nf two frames ahead while the fill of that frame is due, and otherwise the records of the
next two frames with Nf three ahead. -/
abbrev Carrier.leadOk (k : Carrier) (due : Option FrameNo) : Prop :=
  let n := k.lane.outCounter
  if k.control.state = .off then k.lane.records = [] ∧ k.lane.nf = none ∧ due = none ∧ k.lane.modemTable = none
  else if due.isSome then due = some (n + 2) ∧ k.lane.nf = some (n + 2) ∧ k.lane.records.map FillRecord.fn = [n + 1]
  else k.lane.nf = some (n + 3) ∧ k.lane.records.map FillRecord.fn = [n + 1, n + 2]

/-- A fill that is being carried out is a data fill of a carrier that carries data, its request no longer stands, and its frame has a slot
left (R121, R122, R124, R125). -/
abbrev State.fillingOk (s : State) : Prop :=
  ∀ w ∈ s.filling,
    (s.car w.carrier).control.state.carries = true ∧ (s.car w.carrier).dist.request = none ∧ w.drawn.length < s.fillCapacity w

/-- Outside OFF the ladder holds at least one entry (R26, R64), a scheduled switch stands in RUN alone (R91), and whatever the next
fill would use lies within the effective tx ceiling (R92): the forced switch, the scheduled switch, and the outbound profile where
no forced switch replaces it. -/
abbrev Carrier.switchesOk (k : Carrier) : Prop :=
  k.control.state ≠ .off →
    1 ≤ k.ladder.length ∧
      (∀ w ∈ k.sched.scheduled, w.granted ≤ k.txCeil ∧ k.control.state = .run) ∧
      (∀ p ∈ k.sched.forced, p ≤ k.txCeil) ∧
      (k.sched.forced = none → k.sched.outbound ≤ k.txCeil)

/-- Every carrier keeps its lock, its fill lead and its switches, and a fill that is being carried out is in order. -/
abbrev State.lanesOk (s : State) : Prop :=
  (∀ c : CarrierId, (s.car c).lockOk ∧ (s.car c).leadOk (s.dueFrame c) ∧ (s.car c).switchesOk) ∧ s.fillingOk

/-! ### Settings -/

/-- The settings of one carrier lie in the ranges of R19, R34, R40, R66, R86 and R149. -/
abbrev Carrier.settingsOk (k : Carrier) : Prop :=
  (1 ≤ k.control.na ∧ k.control.na ≤ 15) ∧ (1 ≤ k.control.tf ∧ k.control.tf ≤ 255) ∧ k.control.fixedProfile ≤ 11 ∧
    (k.control.rxFloor ≤ k.control.rxCeiling ∧ k.control.rxCeiling ≤ 11) ∧ k.control.txCeiling ≤ 11 ∧ k.est.pb ≤ 255 ∧
    k.est.ad ≤ 7 ∧ k.est.au ≤ 7 ∧ k.est.bs ≤ 7 ∧ k.est.lp ≤ 31 ∧ (1 ≤ k.req.nu ∧ k.req.nu ≤ 255) ∧ k.req.th ≤ 65535 ∧
    (-2048 ≤ k.req.gu ∧ k.req.gu ≤ 0) ∧ (4 ≤ k.req.tr ∧ k.req.tr ≤ 255) ∧ k.sched.ds ≤ 13 ∧
    (1 ≤ k.test.dw ∧ k.test.dw ≤ 65535)

/-- Every setting of the part lies in its range (R177): those of the carriers, the gap time and late-run limit (R134), the
management type code (R168), the class limits (R113) and the Shed Table (R111). -/
abbrev State.settingsOk (s : State) : Prop :=
  (∀ c : CarrierId, (s.car c).settingsOk) ∧ (1 ≤ s.reseq.tg ∧ s.reseq.tg ≤ 255) ∧ (1 ≤ s.reseq.k ∧ s.reseq.k ≤ 1024) ∧
    (0x0600 ≤ s.agent.typeCode.toNat ∧ s.agent.typeCode.toNat ≠ 0x8100) ∧ (∀ k : ClassId, s.admission.limits.get k ≤ 16384) ∧
    (∀ k : ClassId, s.admission.shedTable.get k ≤ if k = 0 then 255 else 4092)

/-! ### Levels -/

/-- The estimator's quantities lie in the ranges of section 3.1: the curve's points and Q from 0 to 400 eighths, F from 0 to 12,800
fine units, G within 2,048 of 0, P from 0 to F, and Q the floor of P/32 (R43, R47 to R50). -/
abbrev Estimator.inRange (e : Estimator) : Prop :=
  (∀ p ∈ e.curve.toList, p ≤ 400) ∧ (0 ≤ e.level ∧ e.level ≤ 12800) ∧ (-2048 ≤ e.slope ∧ e.slope ≤ 2048) ∧
    (0 ≤ e.predicted ∧ e.predicted ≤ e.level) ∧ e.quality = e.predicted / 32

/-- Every estimator is in range. -/
abbrev State.levelsOk (s : State) : Prop := ∀ c : CarrierId, (s.car c).est.inRange

/-! ### Reset values -/

/-- One carrier holds the device reset values of R1, R16, R17, R19 to R21, R38 to R40, R43, R58, R65, R66, R77, R85, R86, R95, R120,
R132 and R149. -/
abbrev Carrier.atReset (k : Carrier) : Prop :=
  k.lane = ⟨0, [], none, none, [], 0, 0, 0, 0, 0, 0, 0, 0⟩ ∧
    k.control = ⟨.off, 0, 0, 4, 24, .auto, .adaptive, 0, 0, 11, 11, 0, 0, 0, 0⟩ ∧
    (k.est.level, k.est.slope, k.est.predicted, k.est.quality, k.est.firstSample) = (0, 0, 0, 0, true) ∧
    (∀ i : Fin 17, k.est.curve[i] = 400 - 25 * i.val) ∧
    (k.est.pb, k.est.ad, k.est.au, k.est.bs, k.est.lp) = (16, 1, 4, 3, 8) ∧
    (k.ladder.length, k.ladder.code, k.ladder.locked) = (0, 0, false) ∧
    (∀ i : Fin 12, k.ladder.entries[i] = ⟨0, 0, 0, 0, 0⟩) ∧
    k.req = ⟨0, .idle, 0, 0, 0, 0, 0, 50, 200, -256, 16, 0, 0, 0, 0, 0, 0, 0, 0, 0, 0⟩ ∧
    k.sched = ⟨0, none, none, none, 3, 0, 0, 0, 0, 0, 0⟩ ∧ k.dist = ⟨none, 0, 0, 0, 0, 0⟩ ∧
    (∀ i : Fin 12, k.test.rows[i] = ⟨0, 0, 0⟩) ∧
    (k.test.lostFrames, k.test.nonTest, k.test.discarded) = (0, 0, 0) ∧
    (k.test.sweepActive, k.test.sweepStep, k.test.sweepCount, k.test.dw) = (false, 0, 0, 2000)

/-- Every block holds its device reset value, with the address-select value sampled (R104, R106, R110 to R113, R119, R120, R133,
R134, R148, R160, R168, R169, R180, R182, R183). -/
abbrev State.atReset (s : State) (addr : BitVec 6) : Prop :=
  (∀ c : CarrierId, (s.car c).atReset) ∧ s.site = ⟨0, 0, 0, 0, 0, 0⟩ ∧
    (∀ i : Fin 64, s.classifier.table[i] = ⟨false, .tagged, 0, 0, 0, 0, .cls, 0, 0⟩) ∧
    (s.classifier.defaultClass, s.classifier.drops, s.classifier.defaultFrames) = (3, 0, 0) ∧
    s.admission =
      ⟨⟨0, 0, 0, 0⟩, ⟨0, 0, 0, 0⟩, ⟨false, false, false, false⟩, ⟨1024, 2048, 6144, 6144⟩, Quad.all ⟨0, 0, 0, 0, 0⟩⟩ ∧
    s.queues = ⟨⟨[], [], [], []⟩, ⟨0, 0, 0, 0⟩, none, 0, 0⟩ ∧ s.filling = none ∧
    s.reseq =
      ⟨false, 0, [], none, 0, none, 40, 64, 0, 0, 0, 0, 0, 0, 0, 0, 0, 0, 0, 0, 0, 0, 0, 0, 0, 0, 0⟩ ∧
    s.history = ⟨.idle, 0, .immediate, 0, [], 0, none, .normal⟩ ∧
    s.agent = ⟨0xA3E1, addr, [], none, none, 0, 0, 0, 0, 0, 0, 0, 0⟩ ∧ s.alert = ⟨0, 0⟩

/-! ### Safe steps -/

/-- A step is safe when it answers a next state. -/
def State.stepsOn (s : State) : Prop := ∃ t, step s = .next t

end Sys2Proof.Machine
end

