-- ==== Sys2Proof/Certificates/Slice0/Obligations.lean ====
section
/-! DEFINITION. The statements for the provers, chapter by chapter of the manual. A statement about an event takes every state in which
the RESET line is not held (`State.live`) and in which the event comes about; its conclusion gives the next state, whole where
the rule touches few blocks, block by block otherwise. -/

open Sys2Proof Sys2Proof.Machine

/-! ### The queue of commands -/

/-- A step takes the command at the front of the queue and runs it on the state with the queue's rest; on an empty queue the block idles,
which is the model's choice (notes/assumptions/2.md). -/
def Obligations.StepRunsFrontCommand : Prop :=
  (∀ (i : Instr) (l : List Instr) (s : State), step (s.withPending (i :: l)) = exec i (s.withPending l)) ∧
    ∀ s : State, step (s.withPending []) = .next (s.withPending [])

/-! ### Resets -/

/-- The three device resets leave every block at the value its chapter states and sample the address-select value (00_scope.md, Resets;
R168, R179); a fill that is being carried out is abandoned (R122). That POWER_ON keeps the level of the RESET pin and RESET_DEVICE samples
the straps as they stand is the model's choice (notes/assumptions/10.md), and so is that what has left the part and what waits outside
are kept (notes/assumptions/7.md, notes/assumptions/18.md). -/
def Obligations.DeviceResetValues : Prop :=
  ∀ (s : State) (a : BitVec 6),
    (∃ t, exec (.powerOn a) s = .next t ∧ t.atReset a ∧ t.pins = ⟨s.pins.resetLow, a⟩ ∧ t.out = s.out ∧
        t.drawPlan = s.drawPlan ∧ t.pending = s.pending) ∧
      (∃ t, exec (.resetLineAssertion a) s = .next t ∧ t.atReset a ∧ t.pins = ⟨true, a⟩ ∧ t.out = s.out ∧
        t.drawPlan = s.drawPlan ∧ t.pending = s.pending) ∧
      (s.live →
        ∃ t, exec .resetDevice s = .next t ∧ t.atReset s.pins.addr ∧ t.pins = s.pins ∧ t.out = s.out ∧ t.drawPlan = s.drawPlan ∧
          t.pending = s.pending)

/-- While RESET is low the part stays in its device reset: no command but a power-on and the two events of the RESET line changes
anything, and the release of the line changes nothing but the line (R104, R182; notes/assumptions/10.md). -/
def Obligations.HeldResetHoldsEverything : Prop :=
  (∀ (i : Instr) (s : State),
      s.pins.resetLow = true → (∀ a, i ≠ .resetLineAssertion a) → (∀ a, i ≠ .powerOn a) → i ≠ .resetLineRelease →
        exec i s = .next s) ∧
    ∀ s : State, exec .resetLineRelease s = .next { s with pins := ⟨false, s.pins.addr⟩ }

/-! ### Chapter 1: outbound frames -/

/-- A start of an OFF carrier is ignored. At any other, a fill of the carrier that is being carried out is completed and its standing
request served first (R3, R121), by whole fills in chain order, which is the model's reading (notes/assumptions/8.md); then the
counter advances, the timer counts the start while REQUESTING and does not run out, the modem gets the fill record of the frame with a
header assembled from the carrier's state, the record leaves the lane, the start is counted and the fill of frame FN + 2 requested;
nothing else changes (R3). -/
def Obligations.OutboundStartSendsHeldFrame : Prop :=
  (∀ (s : State) (c : CarrierId), s.live → (s.car c).control.state = .off → exec (.outboundFrameStart c) s = .next s) ∧
    (∀ (s : State) (c : CarrierId),
      ((∃ w, s.filling = some w ∧ w.carrier = c) → s.beforeStart c = s.completeFill.beforeStart c) ∧
        ((∀ w, s.filling = some w → w.carrier ≠ c) →
          ((s.car c).dist.request ≠ none → s.beforeStart c = s.fillNext.beforeStart c) ∧
            ((s.car c).dist.request = none → s.beforeStart c = s)) ∧
        (s.live →
          s.fillNext.drawPlan = s.drawPlan ∧
            exec .fill { s.completeFill with drawPlan := [] } = .next { s.fillNext with drawPlan := [] })) ∧
      ∀ (s₀ : State) (c : CarrierId) (r : FillRecord),
        s₀.live → (s₀.car c).control.state ≠ .off →
          let s := s₀.beforeStart c
          (s.car c).lane.recordOf ((s.car c).lane.outCounter + 1) = some r →
            (∀ q, (s.car c).req.state = .requesting q → 1 < (s.car c).req.timer) →
              let k := s.car c
              let n := k.lane.outCounter + 1
              let timer := match k.req.state with | .requesting _ => k.req.timer - 1 | _ => k.req.timer
              exec (.outboundFrameStart c) s₀ =
                .next ((s.setCar c
                  { k with
                    req := { k.req with timer := timer }
                    lane :=
                      { k.lane with
                        outCounter := n
                        records := k.lane.records.filter (fun x => decide (x.fn ≠ n))
                        framesSent := bump k.lane.framesSent }
                    dist := { k.dist with request := some (n + 2) } }).toModem c ⟨k.header r, r⟩)

/-- The request timer runs out at an outbound frame start: before the header is assembled the request is abandoned, with its tag kept and
a timeout counted, and the header carries kind NONE; the hold-off timer, the dwell counter and the latches are untouched and the start
goes on as any other, after the fills that stand before it (R78; notes/assumptions/8.md). That REQUEST_TIMER_EXPIRY is that start is the
model's choice (notes/assumptions/4.md). -/
def Obligations.RequestTimerRunsOut : Prop :=
  ∀ (s₀ : State) (c : CarrierId) (r : FillRecord) (q : Request),
    s₀.live → (s₀.car c).control.state ≠ .off →
      let s := s₀.beforeStart c
      (s.car c).lane.recordOf ((s.car c).lane.outCounter + 1) = some r → (s.car c).req.state = .requesting q →
        (s.car c).req.timer ≤ 1 →
          let k := s.car c
          let n := k.lane.outCounter + 1
          let req := { k.req with state := .idle, timer := 0, timeouts := bump k.req.timeouts }
          let t :=
            (s.setCar c
              { k with
                req := req
                lane :=
                  { k.lane with
                    outCounter := n
                    records := k.lane.records.filter (fun x => decide (x.fn ≠ n))
                    framesSent := bump k.lane.framesSent }
                dist := { k.dist with request := some (n + 2) } }).toModem c ⟨{ k with req := req }.header r, r⟩
          exec (.requestTimerExpiry c) s₀ = .next t ∧ exec (.outboundFrameStart c) s₀ = .next t ∧
            (readHeaderBody ({ k with req := req }.header r)).kind = 0 ∧
            (readHeaderBody ({ k with req := req }.header r)).reqTag = k.req.tag

/-- What a header carries, read back from its bytes: the status code and the ladder code of the carrier, the frame number, profile, first
sequence and data count of the fill record, the request fields of R7 and the answer fields of R8. -/
def Obligations.HeaderCarriesCarrierState : Prop :=
  ∀ (k : Carrier) (r : FillRecord),
    let h := readHeaderBody (k.header r)
    h.status = BitVec.ofNat 4 (statusCode k.control.state) ∧ h.ladderCode = k.ladder.code ∧ h.fn = r.fn ∧
      h.profile = BitVec.ofNat 4 r.profile ∧ h.firstSeq = r.firstSeq ∧ h.dataCount = BitVec.ofNat 10 r.dataCount ∧
      h.reqTag = k.req.tag ∧
      (match k.req.state with
        | .requesting q => h.kind = BitVec.ofNat 2 (kindCode q.kind) ∧ h.target = BitVec.ofNat 4 q.target
        | _ => h.kind = 0 ∧ h.target = 0) ∧
      (match k.sched.answer with
        | none => h.verdict = 0 ∧ h.ansTag = 0 ∧ h.granted = 0 ∧ h.sf = 0
        | some a =>
          h.ansTag = a.tag ∧
            match a.verdict with
            | .accept g sf => h.verdict = 1 ∧ h.granted = BitVec.ofNat 4 g ∧ h.sf = sf
            | .refuse => h.verdict = 2 ∧ h.granted = 0 ∧ h.sf = 0
            | .busy => h.verdict = 3 ∧ h.granted = 0 ∧ h.sf = 0)

/-- Every header assembled is 14 bytes, passes the check of its receiver, and is read back field by field as it was written, with the bits
that are sent as 0 at 0 (R9, R191). Every segment whose byte count fits its byte and whose payload is 64 bytes is 68 bytes on the wire and
is read back as it was written (section 13.2). The command entries of a management frame are read back as they were written, whatever
follows the last one (R170 check 4, section 13.3). -/
def Obligations.CodecsRoundTrip : Prop :=
  (∀ h : HeaderBits,
    (headerBytes h).length = 14 ∧ headerCheckGood (headerBytes h) = true ∧ readHeaderBody (headerBytes h) = h ∧
      byteAt (headerBytes h) 11 = 0 ∧ (byteAt (headerBytes h) 9).extractLsb' 2 6 = 0) ∧
    (∀ g : Segment,
    g.count < 256 → g.payload.length = 64 → (segmentBytes g).length = 68 ∧ readSegment (segmentBytes g) = g) ∧
    (∀ (l : List RawCommand) (rest : List Byte),
    (∀ x ∈ l, x.args.length < 65536) →
      readCommands l.length (l.flatMap (fun x => [x.code, x.tag] ++ be16 x.args.length ++ x.args) ++ rest) = some l)

/-! ### Chapters 2 to 5, 7 to 9 and 11: the parameters -/

/-- A SET of each numeric parameter of a carrier that acts on nothing else: the value, clamped to its range, is stored and returned, the
result is CLAMPED where clamping changed it, and nothing else of the part changes but the Agent's count and reply (R19, R40, R66, R86,
R177). No running timer is touched. -/
def Obligations.SetNumericParameters : Prop :=
  ∀ (s : State) (c : CarrierId) (b : Byte) (v : BitVec 32),
    s.live → b.toNat = c.val →
      let k := s.car c
      let fit (lo hi : Int) : Int := max lo (min v.toInt hi)
      let after (lo hi : Int) (k' : Carrier) : Answer State :=
        .next ((s.setCar c k').returned
          ⟨if lo ≤ v.toInt ∧ v.toInt ≤ hi then .ok else .clamped, be32 (BitVec.ofInt 32 (fit lo hi)).toNat⟩)
      exec (.setAcquisitionCountLimit b v) s =
          after 1 15 { k with control := { k.control with na := (fit 1 15).toNat } } ∧
        exec (.setFreshnessLimit b v) s = after 1 255 { k with control := { k.control with tf := (fit 1 255).toNat } } ∧
        exec (.setBlockPenalty b v) s = after 0 255 { k with est := { k.est with pb := (fit 0 255).toNat } } ∧
        exec (.setFallShift b v) s = after 0 7 { k with est := { k.est with ad := (fit 0 7).toNat } } ∧
        exec (.setRiseShift b v) s = after 0 7 { k with est := { k.est with au := (fit 0 7).toNat } } ∧
        exec (.setSlopeShift b v) s = after 0 7 { k with est := { k.est with bs := (fit 0 7).toNat } } ∧
        exec (.setLookahead b v) s = after 0 31 { k with est := { k.est with lp := (fit 0 31).toNat } } ∧
        exec (.setUpshiftDwell b v) s = after 1 255 { k with req := { k.req with nu := (fit 1 255).toNat } } ∧
        exec (.setHoldOff b v) s = after 0 65535 { k with req := { k.req with th := (fit 0 65535).toNat } } ∧
        exec (.setUrgentSlope b v) s = after (-2048) 0 { k with req := { k.req with gu := fit (-2048) 0 } } ∧
        exec (.setRequestTime b v) s = after 4 255 { k with req := { k.req with tr := (fit 4 255).toNat } } ∧
        exec (.setStepDelay b v) s = after 0 13 { k with sched := { k.sched with ds := (fit 0 13).toNat } } ∧
        exec (.setSweepDwell b v) s = after 1 65535 { k with test := { k.test with dw := (fit 1 65535).toNat } }

/-- SET of the parameters that carry a code, and of the fixed profile. The recovery and the adaptation mode take codes 0 and 1 and refuse
any other with RANGE and no effect; a mode already stored changes nothing, a changed mode abandons an outstanding request uncounted, with
its tag kept, sets the dwell counter to 0 and starts the hold-off timer at Th, and so does another fixed profile in FIXED mode (R19, R33,
R76, R172). SET of a receive window limit: the value is clamped to 0 to 11 first, then refused with RANGE and without effect when the
floor would exceed the stored ceiling or the ceiling fall below the stored floor; otherwise it is stored and returned, and nothing else of
the carrier changes (R34). -/
def Obligations.SetCodesModesAndReceiveWindow : Prop :=
  (∀ (s : State) (c : CarrierId) (b : Byte) (v : BitVec 32),
    s.live → b.toNat = c.val →
      let k := s.car c
      let p := max 0 (min v.toInt 11)
      let changed : Requester := { k.req with state := .idle, timer := 0, dwell := 0, holdOff := k.req.th }
      let after (r : Result) (stored : Int) (k' : Carrier) : Answer State :=
        .next ((s.setCar c k').returned ⟨r, be32 (BitVec.ofInt 32 stored).toNat⟩)
      (v.toInt = 0 → exec (.setRecovery b v) s = after .ok 0 { k with control := { k.control with recovery := .auto } }) ∧
        (v.toInt = 1 → exec (.setRecovery b v) s = after .ok 1 { k with control := { k.control with recovery := .latch } }) ∧
        (v.toInt ≠ 0 → v.toInt ≠ 1 →
          exec (.setRecovery b v) s = .next (s.returned ⟨.range, []⟩) ∧
            exec (.setAdaptationMode b v) s = .next (s.returned ⟨.range, []⟩)) ∧
        (v.toInt = 0 →
          exec (.setAdaptationMode b v) s =
            after .ok 0
              (if k.control.mode = .adaptive then k
                else { k with control := { k.control with mode := .adaptive }, req := changed })) ∧
        (v.toInt = 1 →
          exec (.setAdaptationMode b v) s =
            after .ok 1
              (if k.control.mode = .fixed then k
                else { k with control := { k.control with mode := .fixed }, req := changed })) ∧
        exec (.setFixedProfile b v) s =
          after (if 0 ≤ v.toInt ∧ v.toInt ≤ 11 then .ok else .clamped) p
            { k with
              control := { k.control with fixedProfile := p.toNat }
              req := if k.control.mode = .fixed ∧ p.toNat ≠ k.control.fixedProfile then changed else k.req }) ∧
    (∀ (s : State) (c : CarrierId) (b : Byte) (v : BitVec 32),
    s.live → b.toNat = c.val →
      let k := s.car c
      let p := max 0 (min v.toInt 11)
      let reply : Reply := ⟨if 0 ≤ v.toInt ∧ v.toInt ≤ 11 then .ok else .clamped, be32 (BitVec.ofInt 32 p).toNat⟩
      exec (.setRxFloor b v) s =
          .next
            (if k.control.rxCeiling < p.toNat then s.returned ⟨.range, []⟩
              else (s.setCar c { k with control := { k.control with rxFloor := p.toNat } }).returned reply) ∧
        exec (.setRxCeiling b v) s =
          .next
            (if p.toNat < k.control.rxFloor then s.returned ⟨.range, []⟩
              else (s.setCar c { k with control := { k.control with rxCeiling := p.toNat } }).returned reply))

/-- SET of the tx ceiling stores the clamped value and returns it. Where the carrier is not OFF and the effective ceiling becomes lower
than it was, to C, the Scheduler acts at once: a forced switch above C is lowered to C; without one, an outbound profile above C is met by
a forced switch to C, which clears the scheduled switch; a scheduled switch left above C is lowered to C, and cleared if it then equals
the outbound profile. An ACTIVE sweep whose step lies above C goes back to C with its count at 0. Otherwise nothing else changes (R35,
R36, R94, R158). It is taken after a fill of the carrier that is being carried out is completed (R122; notes/assumptions/7.md). -/
def Obligations.SetTxCeilingActsAtOnce : Prop :=
  ∀ (s₀ : State) (c : CarrierId) (b : Byte) (v : BitVec 32),
    s₀.live → b.toNat = c.val →
      let s := s₀.completeFillOf c
      let k := s.car c
      let p := max 0 (min v.toInt 11)
      let k0 : Carrier := { k with control := { k.control with txCeiling := p.toNat } }
      let top := min p.toNat (k.ladder.length - 1)
      let forced : Option Nat :=
        match k.sched.forced with
        | some f => some (min f top)
        | none => if top < k.sched.outbound then some top else none
      let scheduled : Option Scheduled :=
        if k.sched.forced = none ∧ top < k.sched.outbound then none
        else
          match k.sched.scheduled with
          | some w => if w.granted ≤ top then some w else if top = k.sched.outbound then none else some { w with granted := top }
          | none => none
      let k1 : Carrier :=
        { k0 with
          sched := { k.sched with forced := forced, scheduled := scheduled }
          test :=
            if k.test.sweepActive = true ∧ top < k.test.sweepStep then { k.test with sweepStep := top, sweepCount := 0 }
            else k.test }
      exec (.setTxCeiling b v) s₀ =
        .next ((s.setCar c (if k.control.state ≠ .off ∧ top < min k.control.txCeiling (k.ladder.length - 1) then k1 else k0)).returned
          ⟨if 0 ≤ v.toInt ∧ v.toInt ≤ 11 then .ok else .clamped, be32 (BitVec.ofInt 32 p).toNat⟩)

/-- SET of the device parameters: the default class, the gap time and the late-run limit are clamped, stored and returned; the management
type code refuses 0x8100 with RANGE and otherwise is raised to 0x0600 or lowered to 0xFFFF where it lies outside; the alert mask takes the
21 bits that name latches. A running gap timer keeps its value (R109, R134, R168, R182). -/
def Obligations.SetDeviceParameters : Prop :=
  ∀ (s : State) (v : BitVec 32),
    s.live →
      let fit (lo hi : Int) : Int := max lo (min v.toInt hi)
      let reply (lo hi : Int) : Reply :=
        ⟨if lo ≤ v.toInt ∧ v.toInt ≤ hi then .ok else .clamped, be32 (BitVec.ofInt 32 (fit lo hi)).toNat⟩
      (∃ k : ClassId,
          (k.val : Int) = fit 0 3 ∧
            exec (.setDefaultClass v) s =
              .next ({ s with classifier := { s.classifier with defaultClass := k } }.returned (reply 0 3))) ∧
        exec (.setGapTime v) s = .next ({ s with reseq := { s.reseq with tg := (fit 1 255).toNat } }.returned (reply 1 255)) ∧
        exec (.setLateRunLimit v) s = .next ({ s with reseq := { s.reseq with k := (fit 1 1024).toNat } }.returned (reply 1 1024)) ∧
        (v.toInt = 0x8100 → exec (.setManagementTypeCode v) s = .next (s.returned ⟨.range, []⟩)) ∧
        (v.toInt ≠ 0x8100 →
          exec (.setManagementTypeCode v) s =
            .next ({ s with agent := { s.agent with typeCode := BitVec.ofNat 16 (fit 0x0600 0xFFFF).toNat } }.returned
              (reply 0x0600 0xFFFF))) ∧
        exec (.setAlertMask v) s =
          .next ({ s with alert := { s.alert with mask := v.extractLsb' 0 21 } }.returned
            ⟨.ok, be32 (v.extractLsb' 0 21).toNat⟩)

/-- What GET returns: UNKNOWN for a code that names no parameter; the value of a device parameter whatever the carrier number; RANGE for a
carrier parameter of a carrier number above 3, and otherwise the stored value of that carrier in the codes of SET. It changes nothing but
the Agent's count and reply (R177, section 13.3). A SET that is taken is read back: whenever a SET answers OK or CLAMPED, GET of that
parameter for the same carrier, in the state the SET left, answers OK with the same four bytes and leaves that state as it is (R177). -/
def Obligations.GetReturnsStoredValue : Prop :=
  (∀ (s : State) (code b : Byte),
    s.live →
      let number (v : Int) : Reply := ⟨.ok, be32 (BitVec.ofInt 32 v).toNat⟩
      let device : Option Reply :=
        if code = 20 then some (number s.classifier.defaultClass.val)
        else if code = 21 then some (number s.reseq.tg)
        else if code = 22 then some (number s.reseq.k)
        else if code = 23 then some (number s.agent.typeCode.toNat)
        else if code = 24 then some ⟨.ok, be32 s.alert.mask.toNat⟩
        else none
      let values (k : Carrier) : List Int :=
        [k.control.na, k.control.tf, if k.control.recovery = .auto then 0 else 1, if k.control.mode = .adaptive then 0 else 1,
          k.control.fixedProfile, k.control.rxFloor, k.control.rxCeiling, k.control.txCeiling, k.est.pb, k.est.ad, k.est.au,
          k.est.bs, k.est.lp, k.req.nu, k.req.th, k.req.gu, k.req.tr, k.sched.ds, k.test.dw]
      (∀ r, device = some r → exec (.get code b) s = .next (s.returned r)) ∧
        (code = 0 ∨ 24 < code.toNat → exec (.get code b) s = .next (s.returned ⟨.unknown, []⟩)) ∧
        (1 ≤ code.toNat → code.toNat ≤ 19 → 4 ≤ b.toNat → exec (.get code b) s = .next (s.returned ⟨.range, []⟩)) ∧
        ∀ (c : CarrierId) (v : Int),
          b.toNat = c.val → 1 ≤ code.toNat → (values (s.car c))[code.toNat - 1]? = some v →
            exec (.get code b) s = .next (s.returned (number v))) ∧
    (∀ (s : State) (code b : Byte) (p : Param) (v : BitVec 32),
    paramOf code = some p → (runSet p b v s).1.result.taken = true →
      (runSet p b v s).1.data.length = 4 ∧ runGet code b (runSet p b v s).2 = (⟨.ok, (runSet p b v s).1.data⟩, (runSet p b v s).2))

/-! ### Chapters 3, 4, 6, 9 and 11: the tables -/

/-- TABLE_WRITE to LADDER: refused with LOCKED outside OFF; refused with RANGE where the entries pass the table's end, a modulation code
is above 9 or a capacity is 0; otherwise every entry is stored whole at its index with its fields clamped, every other entry and the
length stay, and the ladder code is computed anew from the stored values unless no entry was given (R60, R62, R63). -/
def Obligations.LadderWriteStoresEntries : Prop :=
  ∀ (s : State) (c : CarrierId) (b start : Byte) (l : List LadderEntryRaw),
    s.live → b.toNat = c.val →
      let k := s.car c
      let refused :=
        12 < start.toNat + l.length ∨ (∃ e ∈ l, 9 < e.modulation.toNat) ∨ ∃ e ∈ l, e.capacity.toNat = 0
      (k.control.state ≠ .off → exec (.tableWriteLadder b start l) s = .next (s.returned ⟨.locked, []⟩)) ∧
        (k.control.state = .off → refused → exec (.tableWriteLadder b start l) s = .next (s.returned ⟨.range, []⟩)) ∧
        (k.control.state = .off → ¬ refused →
          ∃ entries : Vector LadderEntry 12,
            (∀ i : Fin 12,
                entries[i] =
                  match if start.toNat ≤ i.val then l[i.val - start.toNat]? else none with
                  | some e =>
                    ⟨e.modulation.toNat, min e.rate.toNat 7, min e.capacity.toNat 1023, min e.enter.toNat 400,
                      min e.hold.toNat 400⟩
                  | none => k.ladder.entries[i]) ∧
              exec (.tableWriteLadder b start l) s =
                .next ((s.setCar c
                  { k with
                    ladder :=
                      { k.ladder with
                        entries := entries
                        code :=
                          if l = [] then k.ladder.code
                          else
                            crc8 (byteOf k.ladder.length ++
                              (entries.toList.take k.ladder.length).flatMap
                                (fun e => byteOf e.modulation ++ byteOf e.rate ++ be16 e.capacity)) } }).returned
                  ⟨if ∃ e ∈ l, 7 < e.rate.toNat ∨ 1023 < e.capacity.toNat ∨ 400 < e.enter.toNat ∨ 400 < e.hold.toNat then .clamped
                    else .ok, []⟩))

/-- TABLE_WRITE to LADDER_LENGTH, every case of R61: LOCKED outside OFF; RANGE for a start other than 0 or more than one value; no value
stores nothing and keeps the code; a value is stored, at most 12, CLAMPED above 12, and the code is computed anew over the entries that
stand; a length of 0 makes the next ENABLE fail with LADDER. -/
def Obligations.LadderLengthWrite : Prop :=
  ∀ (s : State) (c : CarrierId) (b start : Byte) (l : List Byte),
    s.live → b.toNat = c.val →
      let k := s.car c
      (k.control.state ≠ .off → exec (.tableWriteLadderLength b start l) s = .next (s.returned ⟨.locked, []⟩)) ∧
        (k.control.state = .off → start ≠ 0 ∨ 2 ≤ l.length →
          exec (.tableWriteLadderLength b start l) s = .next (s.returned ⟨.range, []⟩)) ∧
        (k.control.state = .off → exec (.tableWriteLadderLength b 0 []) s = .next (s.returned ⟨.ok, []⟩)) ∧
        ∀ v : Byte,
          k.control.state = .off →
            let n := min v.toNat 12
            let t :=
              (s.setCar c
                { k with
                  ladder :=
                    { k.ladder with
                      length := n
                      code :=
                        crc8 (byteOf n ++
                          (k.ladder.entries.toList.take n).flatMap
                            (fun e => byteOf e.modulation ++ byteOf e.rate ++ be16 e.capacity)) } }).returned
                ⟨if v.toNat ≤ 12 then .ok else .clamped, []⟩
            exec (.tableWriteLadderLength b 0 [v]) s = .next t ∧
              (v = 0 → exec (.carrierEnable b) t = .next (t.returned ⟨.ladder, [1, 0]⟩))

/-- TABLE_WRITE to CURVE, in every carrier state: RANGE where the points pass C[16], otherwise each value is stored at its point, at most
400, CLAMPED if any was above, and every other point and the filter state stay (R43). -/
def Obligations.CurveWriteStoresPoints : Prop :=
  ∀ (s : State) (c : CarrierId) (b start : Byte) (l : List (BitVec 16)),
    s.live → b.toNat = c.val →
      let k := s.car c
      (17 < start.toNat + l.length → exec (.tableWriteCurve b start l) s = .next (s.returned ⟨.range, []⟩)) ∧
        (start.toNat + l.length ≤ 17 →
          ∃ curve : Vector Nat 17,
            (∀ i : Fin 17,
                curve[i] =
                  match if start.toNat ≤ i.val then l[i.val - start.toNat]? else none with
                  | some v => min v.toNat 400
                  | none => k.est.curve[i]) ∧
              exec (.tableWriteCurve b start l) s =
                .next ((s.setCar c { k with est := { k.est with curve := curve } }).returned
                  ⟨if ∃ v ∈ l, 400 < v.toNat then .clamped else .ok, []⟩))

/-- TABLE_WRITE to FLOW: RANGE where the entries pass index 63, a tag match code is above 2 or an action code above 1; otherwise each
entry is stored at its index with its fields clamped and its hit counter at 0, and every other entry and the other counters stay (R109).
-/
def Obligations.FlowWriteStoresEntries : Prop :=
  ∀ (s : State) (start : Byte) (l : List FlowEntryRaw),
    s.live →
      let refused := 64 < start.toNat + l.length ∨ (∃ e ∈ l, 2 < e.tagMatch.toNat) ∨ ∃ e ∈ l, 1 < e.action.toNat
      (refused → exec (.tableWriteFlow start l) s = .next (s.returned ⟨.range, []⟩)) ∧
        (¬ refused →
          ∃ table : Vector FlowEntry 64,
            (∀ i : Fin 64,
                match if start.toNat ≤ i.val then l[i.val - start.toNat]? else none with
                | some e =>
                  table[i].valid = e.valid.getLsbD 0 ∧
                    table[i].tagMatch = (if e.tagMatch = 0 then .tagged else if e.tagMatch = 1 then .untagged else .any) ∧
                    table[i].vlanLow = min e.vlanLow.toNat 4095 ∧ table[i].vlanHigh = min e.vlanHigh.toNat 4095 ∧
                    table[i].prioLow = min e.prioLow.toNat 7 ∧ table[i].prioHigh = min e.prioHigh.toNat 7 ∧
                    table[i].action = (if e.action = 0 then .cls else .drop) ∧ table[i].cls.val = min e.cls.toNat 3 ∧
                    table[i].hits = 0
                | none => table[i] = s.classifier.table[i]) ∧
              exec (.tableWriteFlow start l) s =
                .next ({ s with classifier := { s.classifier with table := table } }.returned
                  ⟨if ∃ e ∈ l, 4095 < e.vlanLow.toNat ∨ 4095 < e.vlanHigh.toNat ∨ 7 < e.prioLow.toNat ∨ 7 < e.prioHigh.toNat ∨
                      3 < e.cls.toNat then .clamped
                    else .ok, []⟩))

/-- TABLE_WRITE to SHED: RANGE where the values pass position 3; otherwise Ah at position 0 is stored at most 255 and each Amin at most
4,092, the other positions stay, and a write of at least one value is followed by one shed evaluation with the aggregate that stands
(R111). TABLE_WRITE to CLASS_LIMIT: RANGE where the values pass position 3; otherwise each value is stored at its class, at most 16,384,
and the other limits, the occupancies and the frames held stay (R113). -/
def Obligations.ShedTableAndClassLimitWrites : Prop :=
  (∀ (s : State) (start : Byte) (l : List (BitVec 16)),
    s.live →
      (4 < start.toNat + l.length → exec (.tableWriteShed start l) s = .next (s.returned ⟨.range, []⟩)) ∧
        (start.toNat + l.length ≤ 4 →
          ∃ table : Quad Nat,
            (∀ i : Fin 4,
                table.get i =
                  match if start.toNat ≤ i.val then l[i.val - start.toNat]? else none with
                  | some v => min v.toNat (if i = 0 then 255 else 4092)
                  | none => s.admission.shedTable.get i) ∧
              exec (.tableWriteShed start l) s =
                .next ((if l = [] then s else State.shedEvaluate { s with admission := { s.admission with shedTable := table } }).returned
                  ⟨if ∃ i : Fin 4, ∃ v, start.toNat ≤ i.val ∧ l[i.val - start.toNat]? = some v ∧ (if i = 0 then 255 else 4092) < v.toNat then
                      .clamped
                    else .ok, []⟩))) ∧
    (∀ (s : State) (start : Byte) (l : List (BitVec 16)),
    s.live →
      (4 < start.toNat + l.length → exec (.tableWriteClassLimit start l) s = .next (s.returned ⟨.range, []⟩)) ∧
        (start.toNat + l.length ≤ 4 →
          ∃ limits : Quad Nat,
            (∀ i : Fin 4,
                limits.get i =
                  match if start.toNat ≤ i.val then l[i.val - start.toNat]? else none with
                  | some v => min v.toNat 16384
                  | none => s.admission.limits.get i) ∧
              exec (.tableWriteClassLimit start l) s =
                .next ({ s with admission := { s.admission with limits := limits } }.returned
                  ⟨if ∃ v ∈ l, 16384 < v.toNat then .clamped else .ok, []⟩)))

/-- TABLE_READ changes nothing but the Agent's count and reply. A table code outside 1 to 7 is refused with UNKNOWN; a carrier number
above 3 for a table of a carrier, and a range past the table's end, are refused with RANGE, or with TOO_LONG where the count times the
width of a position would pass the 1,492 bytes that an entry given alone can hold; otherwise the entries asked for are returned in
position order, in the layouts of section 13.3 (R62, R155, R176). That a range which fails both checks answers TOO_LONG is the model's
reading of R171 (notes/assumptions/15.md). -/
def Obligations.TableReadReturnsEntries : Prop :=
  ∀ (s : State) (t b start n : Byte),
    s.live →
      let range (l : List (List Byte)) : List Byte := ((l.drop start.toNat).take n.toNat).flatten
      let flowEntry (e : FlowEntry) : List Byte :=
        byteOf (if e.valid then 1 else 0) ++ byteOf (match e.tagMatch with | .tagged => 0 | .untagged => 1 | .any => 2) ++
          be16 e.vlanLow ++ be16 e.vlanHigh ++ byteOf e.prioLow ++ byteOf e.prioHigh ++
          byteOf (if e.action = .cls then 0 else 1) ++ byteOf e.cls.val ++ be32 e.hits
      let carrierTables (k : Carrier) : List (Nat × List (List Byte)) :=
        [ (1, k.ladder.entries.toList.map (fun e =>
            byteOf e.modulation ++ byteOf e.rate ++ be16 e.capacity ++ be16 e.enter ++ be16 e.hold)),
          (2, [byteOf k.ladder.length]),
          (3, k.est.curve.toList.map be16),
          (7, k.test.rows.toList.map (fun r => be32 r.checked ++ be32 r.errored ++ be32 r.bitErrors) ++
            [be32 k.test.lostFrames ++ be32 k.test.nonTest]) ]
      let deviceTables : List (Nat × List (List Byte)) :=
        [ (4, s.classifier.table.toList.map flowEntry), (5, s.admission.shedTable.toList.map be16),
          (6, s.admission.limits.toList.map be16) ]
      let width : Nat := [0, 8, 1, 2, 14, 2, 2, 12].getD t.toNat 0
      let refused : Prop :=
        exec (.tableRead t b start n) s = .next (s.returned ⟨if width * n.toNat ≤ 1492 then .range else .tooLong, []⟩)
      let past (l : List (List Byte)) : Prop := l.length < start.toNat + n.toNat → refused
      let within (l : List (List Byte)) : Prop :=
        start.toNat + n.toNat ≤ l.length → exec (.tableRead t b start n) s = .next (s.returned ⟨.ok, range l⟩)
      (t = 0 ∨ 7 < t.toNat → exec (.tableRead t b start n) s = .next (s.returned ⟨.unknown, []⟩)) ∧
        (∀ l, (t.toNat, l) ∈ deviceTables → past l ∧ within l) ∧
        (∀ (c : CarrierId) (l : List (List Byte)), b.toNat = c.val → (t.toNat, l) ∈ carrierTables (s.car c) → past l ∧ within l) ∧
        (4 ≤ b.toNat → t = 1 ∨ t = 2 ∨ t = 3 ∨ t = 7 → refused)

/-! ### Chapter 2: the CARRIER actions -/

/-- ENABLE of an OFF carrier whose ladder passes validation: the carrier enters ACQUIRE with the start clearing, its lane makes the idle
fill records of frames 0 and 1 at profile 0 with the outbound frame counter at 4095 and Nf at 2 and gives the modem the profile table, and
the ladder is locked; settings, counters, curve, ladder entries and result rows are kept, and the lane signals the contribution (R1, R2,
R26, R27). -/
def Obligations.EnableStartsCarrier : Prop :=
  ∀ (s : State) (c : CarrierId) (b : Byte),
    s.live → b.toNat = c.val → (s.car c).control.state = .off → (s.car c).ladder.validate = none →
      let k := s.car c
      let e := k.ladder.at 0
      let idleFrame (n : FrameNo) : FillRecord :=
        { fn := n, profile := 0, modulation := e.modulation, rate := e.rate, capacity := e.capacity,
          payload := .segments (List.replicate e.capacity ⟨0, false, false, true, 0, List.replicate 64 0⟩), firstSeq := 0,
          dataCount := 0 }
      exec (.carrierEnable b) s =
        .next (((s.setCar c
          { k with
            control := { k.control with state := .acquire, freshness := 0, acqCount := 0 }
            est := { k.est with level := 0, slope := 0, predicted := 0, quality := 0, firstSample := true }
            req := { k.req with inbound := 0, state := .idle, tag := 0, dwell := 0, holdOff := 0, timer := 0 }
            sched := { k.sched with outbound := 0, scheduled := none, forced := none, answer := none }
            test := { k.test with sweepActive := false }
            ladder := { k.ladder with locked := true }
            lane :=
              { k.lane with
                outCounter := 4095
                records := [idleFrame 0, idleFrame 1]
                nf := some 2
                modemTable :=
                  some ((k.ladder.entries.toList.take k.ladder.length).map (fun x => (x.modulation, x.rate))) } }).signalContribution
          c).returned ⟨.ok, []⟩)

/-- The ladder validation of an ENABLE given to an OFF carrier: the five checks in order over the stored entries below the length, the
first that fails named in the data with the lowest index at which it fails, and a refused ENABLE changing nothing but the Agent's count
and reply; a ladder that passes all five takes the carrier to ACQUIRE and is locked (R64). -/
def Obligations.LadderValidation : Prop :=
  ∀ (s : State) (c : CarrierId) (b : Byte),
    s.live → b.toNat = c.val → (s.car c).control.state = .off →
      let l := (s.car c).ladder
      let fails (check k : Nat) : Prop :=
        match check with
        | 2 => k < l.length ∧ if k = 0 then (l.at 0).capacity < 1 else (l.at k).capacity ≤ (l.at (k - 1)).capacity
        | 3 => 2 ≤ k ∧ k < l.length ∧ (l.at k).enter ≤ (l.at (k - 1)).enter
        | 4 => 2 ≤ k ∧ k < l.length ∧ (l.at k).hold < (l.at (k - 1)).hold
        | _ => 1 ≤ k ∧ k < l.length ∧ (l.at k).enter < (l.at k).hold + 4
      (l.length = 0 → exec (.carrierEnable b) s = .next (s.returned ⟨.ladder, [1, 0]⟩)) ∧
        (∀ check k : Nat,
          1 ≤ l.length → 2 ≤ check → check ≤ 5 → (∀ x, 2 ≤ x → x < check → ∀ j, ¬ fails x j) → fails check k →
            (∀ j, j < k → ¬ fails check j) →
            exec (.carrierEnable b) s = .next (s.returned ⟨.ladder, [BitVec.ofNat 8 check, BitVec.ofNat 8 k]⟩)) ∧
        (1 ≤ l.length → (∀ x, 2 ≤ x → x ≤ 5 → ∀ j, ¬ fails x j) →
          ∃ t, exec (.carrierEnable b) s = .next t ∧ (t.car c).control.state = .acquire ∧ (t.car c).ladder.locked = true ∧
            t.agent.reply = some ⟨.ok, []⟩)

/-- DISABLE of a carrier that is not OFF: OFF, the lane's records, Nf and profile table gone, the ladder unlocked, the estimator,
Requester and Scheduler cleared, the counts at 0, a sweep ended without its latch, a standing fill request withdrawn, and a capture of
this carrier that is ARMED or in POST ended in DONE with end cause CUT and the CAPTURE DONE latch; the outbound frame counter, settings,
counters, curve and ladder entries are kept. In OFF, DISABLE answers OK and changes nothing (R1, R29, R30, R165). It is taken after a
fill of the carrier that is being carried out is completed (R122; notes/assumptions/7.md). -/
def Obligations.DisableClearsCarrier : Prop :=
  ∀ (s₀ : State) (c : CarrierId) (b : Byte),
    s₀.live → b.toNat = c.val →
      let s := s₀.completeFillOf c
      let k := s.car c
      let t :=
        s.setCar c
          { k with
            control := { k.control with state := .off, freshness := 0, acqCount := 0 }
            est := { k.est with level := 0, slope := 0, predicted := 0, quality := 0, firstSample := true }
            req := { k.req with inbound := 0, state := .idle, tag := 0, dwell := 0, holdOff := 0, timer := 0 }
            sched := { k.sched with outbound := 0, scheduled := none, forced := none, answer := none }
            test := { k.test with sweepActive := false }
            ladder := { k.ladder with locked := false }
            lane := { k.lane with records := [], nf := none, modemTable := none }
            dist := { k.dist with request := none } }
      let cut :=
        if s.history.carrier = c ∧ (s.history.state = .armed ∨ s.history.state = .post) then
          { t with history := { s.history with state := .done, cause := .cut } }.signal .captureDone
        else t
      ((s₀.car c).control.state = .off → exec (.carrierDisable b) s₀ = .next (s₀.returned ⟨.ok, []⟩)) ∧
        ((s₀.car c).control.state ≠ .off → exec (.carrierDisable b) s₀ = .next ((cut.signalContribution c).returned ⟨.ok, []⟩))

/-- RESTART of a carrier that is not OFF: ACQUIRE with the start clearing, while the outbound frame counter, the fill records, Nf, the
profile table, a standing fill request, the lock and everything else of the carrier are kept (R27, R28). It is taken after a fill of the
carrier that is being carried out is completed (R122; notes/assumptions/7.md). -/
def Obligations.RestartKeepsFilledFrames : Prop :=
  ∀ (s₀ : State) (c : CarrierId) (b : Byte),
    s₀.live → b.toNat = c.val → (s₀.car c).control.state ≠ .off →
      let s := s₀.completeFillOf c
      let k := s.car c
      exec (.carrierRestart b) s₀ =
        .next (((s.setCar c
          { k with
            control := { k.control with state := .acquire, freshness := 0, acqCount := 0 }
            est := { k.est with level := 0, slope := 0, predicted := 0, quality := 0, firstSample := true }
            req := { k.req with inbound := 0, state := .idle, tag := 0, dwell := 0, holdOff := 0, timer := 0 }
            sched := { k.sched with outbound := 0, scheduled := none, forced := none, answer := none }
            test := { k.test with sweepActive := false } }).signalContribution c).returned ⟨.ok, []⟩)

/-- TEST_ENTER, TEST_LEAVE and CLEAR_HOLD where they are taken: what each sets, what each returns, and nothing else of the carrier changed
(R25, R31, R32). TEST_ENTER and CLEAR_HOLD are taken after a fill of the carrier that is being carried out is completed (R122;
notes/assumptions/7.md). -/
def Obligations.TestAndHoldActions : Prop :=
  ∀ (s₀ : State) (c : CarrierId) (b : Byte),
    s₀.live → b.toNat = c.val →
      let s := s₀.completeFillOf c
      let k := s.car c
      let k₀ := s₀.car c
      let top := min k.control.txCeiling (k.ladder.length - 1)
      (∀ p : Byte,
          k₀.control.state ≠ .off → k₀.control.state ≠ .test →
            exec (.testEnter b p) s₀ =
              .next (((s.setCar c
                { k with
                  control := { k.control with state := .test, acqCount := 0 }
                  req := { k.req with state := .idle, timer := 0 }
                  sched := { k.sched with forced := some (min p.toNat top), scheduled := none }
                  test :=
                    { k.test with rows := Vector.replicate 12 ⟨0, 0, 0⟩, lostFrames := 0, nonTest := 0 } }).signalContribution
                c).returned ⟨if p.toNat ≤ top then .ok else .clamped, [BitVec.ofNat 8 (min p.toNat top)]⟩)) ∧
        (k₀.control.state = .test →
          exec (.testLeave b) s₀ =
            .next (((s₀.setCar c
              { k₀ with
                control := { k₀.control with state := .acquire, acqCount := 0 }
                sched := { k₀.sched with forced := some 0, scheduled := none }
                test := { k₀.test with sweepActive := false } }).signalContribution c).returned ⟨.ok, []⟩)) ∧
        (k₀.control.state = .hold →
          exec (.clearHold b) s₀ =
            .next ((s.setCar c
              { k with
                control := { k.control with state := .run, acqCount := 0 }
                req := { k.req with dwell := 0, holdOff := k.req.th } }).returned ⟨.ok, []⟩))

/-- Where a CARRIER action, a SWEEP or a CAPTURE ARM is refused with STATE: ENABLE outside OFF (R26), RESTART in OFF (R28), TEST_ENTER in OFF
and in TEST (R31), TEST_LEAVE and SWEEP outside TEST (R32, R156), CLEAR_HOLD outside HOLD (R25), ARM of an OFF carrier (R164). Nothing
changes but the Agent's count and reply. -/
def Obligations.ActionsRefusedByState : Prop :=
  ∀ (s : State) (c : CarrierId) (b : Byte),
    s.live → b.toNat = c.val →
      let st := (s.car c).control.state
      let refused (i : Instr) : Prop := exec i s = .next (s.returned ⟨.state, []⟩)
      (st ≠ .off → refused (.carrierEnable b)) ∧
        (st = .off → refused (.carrierRestart b)) ∧
        (st = .off ∨ st = .test → ∀ p, refused (.testEnter b p)) ∧
        (st ≠ .test → refused (.testLeave b) ∧ ∀ p d, refused (.sweep b p d)) ∧
        (st ≠ .hold → refused (.clearHold b)) ∧
        (st = .off → ∀ (t : Byte) (post : BitVec 16), 1 ≤ t.toNat → t.toNat ≤ 5 → refused (.captureArm b t post))

/-- A carrier number above 3 is refused with RANGE by every command that names a carrier other than GET and TABLE_READ, of which
GetReturnsStoredValue and TableReadReturnsEntries say what they answer there; whatever the carriers' states, it changes nothing but the
Agent's count and reply (R176, R177, R178). -/
def Obligations.CarrierNumberRefused : Prop :=
  ∀ (s : State) (b : Byte),
    s.live → 4 ≤ b.toNat →
      let refused (i : Instr) : Prop := exec i s = .next (s.returned ⟨.range, []⟩)
      (refused (.carrierEnable b) ∧ refused (.carrierDisable b) ∧ refused (.carrierRestart b) ∧ refused (.testLeave b) ∧
          refused (.clearHold b)) ∧
        (∀ p, refused (.testEnter b p)) ∧ (∀ p d, refused (.sweep b p d)) ∧ (∀ t post, refused (.captureArm b t post)) ∧
        (∀ p l, refused (.tableWriteLadder b p l)) ∧ (∀ p l, refused (.tableWriteLadderLength b p l)) ∧
        (∀ p l, refused (.tableWriteCurve b p l)) ∧
        ∀ v,
          refused (.setAcquisitionCountLimit b v) ∧ refused (.setFreshnessLimit b v) ∧ refused (.setRecovery b v) ∧
            refused (.setAdaptationMode b v) ∧ refused (.setFixedProfile b v) ∧ refused (.setRxFloor b v) ∧
            refused (.setRxCeiling b v) ∧ refused (.setTxCeiling b v) ∧ refused (.setBlockPenalty b v) ∧
            refused (.setFallShift b v) ∧ refused (.setRiseShift b v) ∧ refused (.setSlopeShift b v) ∧
            refused (.setLookahead b v) ∧ refused (.setUpshiftDwell b v) ∧ refused (.setHoldOff b v) ∧
            refused (.setUrgentSlope b v) ∧ refused (.setRequestTime b v) ∧ refused (.setStepDelay b v) ∧
            refused (.setSweepDwell b v)

/-! ### Chapters 9, 10 and 11: sweeps, captures, latches, the status report, the traffic reset -/

/-- SWEEP of a carrier in TEST: the start profile clamped to the effective tx ceiling and Dw, at least 1 where the command gives one, are
stored and returned; the result set is cleared, the sweep is ACTIVE at the start profile with count 0, and a forced switch to it replaces
any and clears a scheduled switch; the result is CLAMPED when either was clamped (R93, R156). -/
def Obligations.SweepStarts : Prop :=
  ∀ (s : State) (c : CarrierId) (b start : Byte) (dwell : Option (BitVec 16)),
    s.live → b.toNat = c.val → (s.car c).control.state = .test →
      let k := s.car c
      let top := min k.control.txCeiling (k.ladder.length - 1)
      let p := min start.toNat top
      let dw := match dwell with | some d => max 1 d.toNat | none => k.test.dw
      exec (.sweep b start dwell) s =
        .next ((s.setCar c
          { k with
            sched := { k.sched with forced := some p, scheduled := none }
            test :=
              { k.test with
                rows := Vector.replicate 12 ⟨0, 0, 0⟩, lostFrames := 0, nonTest := 0, sweepActive := true, sweepStep := p,
                sweepCount := 0, dw := dw } }).returned
          ⟨if start.toNat ≤ top ∧ dwell ≠ some 0 then .ok else .clamped, [BitVec.ofNat 8 p] ++ be16 dw⟩)

/-- CAPTURE ARM and CANCEL. ARM refuses a trigger code outside 1 to 5 with RANGE; of a carrier that is not OFF it is taken in every
capture state: the ring is emptied, the selected carrier, trigger and post count, at most 511, take the values given and the capture is
ARMED. CANCEL empties the ring and leaves the capture IDLE with its selection kept. No latch is signalled (R164). That CANCEL keeps the
end cause too, and that ARM judges its trigger before the state of the carrier, is the model's reading (notes/assumptions/22.md). -/
def Obligations.CaptureArmAndCancel : Prop :=
  (∀ (s : State) (c : CarrierId) (b t : Byte) (post : BitVec 16),
      s.live → b.toNat = c.val →
        (t = 0 ∨ 5 < t.toNat → exec (.captureArm b t post) s = .next (s.returned ⟨.range, []⟩)) ∧
          ∀ tr : Trigger,
            (s.car c).control.state ≠ .off →
              [Trigger.immediate, .anyDownshift, .urgent, .fallback, .mismatch][t.toNat - 1]? = some tr → t ≠ 0 →
              exec (.captureArm b t post) s =
                .next ({ s with history := ⟨.armed, c, tr, min post.toNat 511, [], 0, none, .normal⟩ }.returned
                  ⟨if post.toNat ≤ 511 then .ok else .clamped, []⟩)) ∧
    ∀ s : State,
      s.live →
        exec .captureCancel s =
          .next ({ s with
            history :=
              ⟨.idle, s.history.carrier, s.history.trigger, s.history.post, [], 0, none, s.history.cause⟩ }.returned ⟨.ok, []⟩)

/-- CAPTURE READ changes nothing but the Agent's count and reply. Outside DONE it is refused with BUSY; in DONE an offset above 511 is
refused with RANGE; otherwise the end cause, the post records count and the positions asked for are returned, at most 32, CLAMPED above
32: a position below the number of records held gives its record in the 16 bytes of section 13.5, with VALID set and FIRST at offset 0;
any other gives 16 bytes of 0 (R166, section 13.5). That BUSY is the answer outside DONE whatever the offset is the model's reading
(notes/assumptions/22.md). -/
def Obligations.CaptureReadReturnsRing : Prop :=
  ∀ (s : State) (off : BitVec 16) (n : Byte),
    s.live →
      let y := s.history
      let position (i : Nat) : List Byte :=
        match y.ring[i]? with
        | some r => recordBytes (decide (i = 0)) r
        | none => List.replicate 16 0
      (y.state ≠ .done → exec (.captureRead off n) s = .next (s.returned ⟨.busy, []⟩)) ∧
        (y.state = .done → 511 < off.toNat → exec (.captureRead off n) s = .next (s.returned ⟨.range, []⟩)) ∧
        (y.state = .done → off.toNat ≤ 511 →
          exec (.captureRead off n) s =
            .next (s.returned
              ⟨if n.toNat ≤ 32 then .ok else .clamped,
                [if y.cause = .normal then 0 else 1] ++ be16 y.postRecords ++
                  ((List.range (min n.toNat 32)).map (fun i => position (off.toNat + i))).flatten⟩)) ∧
        ∀ (first : Bool) (r : Record),
          let bit (b : Bool) (n : Nat) : Nat := if b then n else 0
          let two (v : Int) : List Byte := be16 (BitVec.ofInt 16 v).toNat
          (recordBytes first r).length = 16 ∧
            recordBytes first r =
              byteOf (if first then 0xC0 else 0x80) ++ be16 (match r.fn with | some n => n.toNat | none => 0xFFFF) ++ be16 r.x ++
                two r.sample ++ two r.level ++ two r.slope ++ two r.quality ++ byteOf r.inbound ++
                byteOf (match r.issued with | some q => (if q.kind = .step then 16 else 32) + q.target | none => 0) ++
                byteOf
                  (bit r.answerTaken 32 + bit r.completed 16 + bit r.mismatch 8 + bit r.fallback 4 + bit r.outOfOrder 2 +
                    bit r.trigger 1)

/-- LATCH_CLEAR clears each latch whose position in the mask is set, leaves the others as they stand, ignores positions that name no latch
and returns OK with the state of the 21 latches before the clearing; nothing else changes but the Agent's count and reply (R181). -/
def Obligations.LatchClear : Prop :=
  ∀ (s : State) (mask : BitVec 32),
    s.live →
      ∃ latches : BitVec 21,
        exec (.latchClear mask) s =
            .next ({ s with alert := { s.alert with latches := latches } }.returned ⟨.ok, be32 s.alert.latches.toNat⟩) ∧
          (∀ i < 21, latches.getLsbD i = (s.alert.latches.getLsbD i && !mask.getLsbD i)) ∧
          ∀ l : Latch,
            (⟨latches, s.alert.mask⟩ : Alert).isSet l = (s.alert.isSet l && !mask.getLsbD l.bit) ∧
              ((⟨latches, s.alert.mask⟩ : Alert).raise l).isSet l = true

/-- The ALERT line is asserted exactly while some latch is both set and enabled in the mask, and follows every setting and clearing of a
latch and every SET of the mask, since it is read from the latches and the mask alone (R180, R182). -/
def Obligations.AlertLineFollowsLatches : Prop :=
  ∀ s : State,
    (s.alertAsserted = true ↔ ∃ l : Latch, s.alert.isSet l = true ∧ s.alert.mask.getLsbD l.bit = true) ∧
      ∀ l m : Latch, (s.signal l).alert.isSet m = (s.alert.isSet m || decide (m = l))

/-- STATUS: any clear value but 0 and 1 is refused with RANGE. The report is of fixed length, fits the response of a STATUS given alone,
and holds the groups of section 13.4 in order; the widths of the fields that section does not lay out are the model's reading
(notes/assumptions/11.md), and the place of the ladder code of R63 is its choice (notes/assumptions/25.md). With clear NO nothing
changes; with clear YES every latch and every counter is set to 0 once the report is built, and what stands (states, timers, occupancies,
contributions, ladders, result sets, queues, the capture) is kept (R175); that the command is itself counted as run afterwards, so that
commands run reads 1, is the model's choice (notes/assumptions/6.md). A fill that is being carried out stands before its next draw as it
stood, and the report gives the queues as its last draw left them (R119); that its data segments placed and frames started are then
counted and its data fills and idle segments not yet is the model's reading of R132 (notes/assumptions/7.md). -/
def Obligations.StatusReportsAndClears : Prop :=
  ∀ (s : State) (clear : Byte),
    s.live →
      let fours (l : List Nat) : List Byte := l.flatMap be32
      let two (v : Int) : List Byte := be16 (BitVec.ofInt 16 v).toNat
      let one (n : Nat) : List Byte := byteOf n
      let flag (b : Bool) : List Byte := byteOf (if b then 1 else 0)
      let absent (n : Nat) : List Byte := List.replicate n 0xFF
      let carrier (k : Carrier) : List Byte :=
        one (match k.control.state with | .off => 0 | .acquire => 1 | .run => 2 | .fallback => 3 | .hold => 4 | .test => 5) ++
          be16 k.control.freshness ++ be16 k.control.acqCount ++ flag (k.control.mode = .fixed) ++
          flag (k.control.recovery = .latch) ++
          fours [k.control.acquisitions, k.control.fallbacks, k.control.recoveries, k.control.ladderMismatches] ++
          fours [k.lane.framesSent, k.lane.framesReceived, k.lane.discardedOff, k.lane.unlocked, k.lane.checkFailures,
            k.lane.badStatus, k.lane.unreadable, k.lane.formatErrors] ++
          two k.est.level ++ two k.est.slope ++ two k.est.quality ++ flag k.est.firstSample ++ be16 k.req.inbound ++
          one (match k.req.state with | .idle => 0 | .requesting _ => 1 | .pending _ _ _ => 2) ++ be16 k.req.tag.toNat ++
          (match k.req.state.outstanding with
            | some q => one (if q.kind = .step then 1 else 2) ++ be16 q.target
            | none => absent 3) ++
          be16 k.req.dwell ++ be16 k.req.holdOff ++ be16 k.req.timer ++
          (match k.req.state with | .pending _ g sf => one g ++ be16 sf.toNat | _ => absent 3) ++
          fours [k.req.stepIssued, k.req.urgentIssued, k.req.supersedes, k.req.upshifts, k.req.downshifts, k.req.refusals,
            k.req.busyAnswers, k.req.timeouts, k.req.mismatches, k.req.unsolicited] ++
          be16 k.sched.outbound ++
          (match k.sched.scheduled with
            | some w => one w.granted ++ be16 w.sf.toNat ++ one w.tag.toNat
            | none => absent 4) ++
          (match k.sched.forced with | some p => one p | none => absent 1) ++
          (match k.sched.answer with
            | none => absent 5
            | some a =>
              one a.tag.toNat ++
                match a.verdict with
                | .accept g sf => one 1 ++ one g ++ be16 sf.toNat
                | .refuse => one 2 ++ List.replicate 3 0
                | .busy => one 3 ++ List.replicate 3 0) ++
          (match k.lane.nf with | some n => be16 n.toNat | none => absent 2) ++
          fours [k.sched.requestsTaken, k.sched.acceptSent, k.sched.refuseSent, k.sched.busySent, k.sched.scheduledMade,
            k.sched.forcedMade] ++
          fours [k.dist.dataFills, k.dist.idleFills, k.dist.patternFills, k.dist.dataSegments, k.dist.idleSegments] ++
          flag k.test.sweepActive ++ be16 k.test.sweepStep ++ be16 k.test.sweepCount ++ be16 k.test.dw ++
          be32 k.test.discarded ++ [k.ladder.code]
      let cls (k : ClassId) : List Byte :=
        let n := s.admission.counters.get k
        fours [n.admitted, n.shedDrops, n.limitDrops, n.bufferDrops] ++ if k = 0 then [] else be32 n.shedEntries
      let all (f : Fin 4 → List Byte) : List Byte := f 0 ++ f 1 ++ f 2 ++ f 3
      let q := s.queues
      let r := s.reseq
      let y := s.history
      let lost (x : Nat × Slot) : Bool := match x.2 with | .lost => true | .segment _ => false
      let report : List Byte :=
        be16 0x6014 ++ one 0x42 ++ be16 s.agent.addr.toNat ++ be16 s.agent.typeCode.toNat ++
          (be32 s.alert.latches.toNat ++ be32 s.alert.mask.toNat ++ flag s.alertAsserted) ++ all (fun c => carrier (s.car c)) ++
          (fours [s.site.fcsErrors, s.site.shortFrames, s.site.longFrames, s.site.accepted, s.site.diverted,
              s.site.egressDelivered, s.classifier.drops, s.classifier.defaultFrames] ++
            all (fun c => be16 (s.admission.contributions.get c)) ++ be16 s.admission.contributions.sum ++
            all (fun k => flag (s.admission.shed.get k)) ++ all cls ++ all (fun k => be16 (q.occupancy.get k)) ++ be16 q.free ++
            all (fun k => be16 (q.frames.get k).length) ++ be16 q.seq.toNat ++
            (match q.cursor with
              | some cu => one cu.cls.val ++ be16 ((cu.frame.length + 63) / 64 - cu.next)
              | none => absent 3) ++
            be32 q.framesStarted) ++
          (flag r.synced ++ be16 r.expected.toNat ++ be16 (r.window.filter (fun x => !lost x)).length ++
            be16 (r.window.filter lost).length ++ be16 (match r.gap with | some v => v | none => 0) ++ be16 r.lateRun ++
            (match r.context with | some x => one x.count ++ be16 x.bytes.length | none => absent 3) ++
            fours [r.stored, r.duplicates, r.late, r.unsyncedDiscards, r.resyncs, r.lateResyncs, r.resyncLosses,
              r.resyncFrameDiscards, r.marksTaken, r.marksIgnored, r.gapExpiries, r.gapPositionsLost, r.lostDelivered,
              r.partialDiscards, r.oversizeDiscards, r.orphans, r.lossDiscards, r.framesToEgress, r.framesToManagement]) ++
          (one (match y.state with | .idle => 0 | .armed => 1 | .post => 2 | .done => 3) ++ be16 y.carrier.val ++
            one (match y.trigger with | .immediate => 1 | .anyDownshift => 2 | .urgent => 3 | .fallback => 4 | .mismatch => 5) ++
            be16 y.post ++ be16 y.ring.length ++ be16 y.postRecords ++ flag (y.cause = .cut)) ++
          (be16 s.agent.queue.length ++
            fours [s.agent.queuedSite, s.agent.queuedRadio, s.agent.queueDrops, s.agent.malformed, s.agent.ignored,
              s.agent.commandsRun, s.agent.commandsRefused, s.agent.responsesSent])
      (2 ≤ clear.toNat → exec (.status clear) s = .next (s.returned ⟨.range, []⟩)) ∧
        (clear = 0 → exec (.status clear) s = .next (s.returned ⟨.ok, report⟩)) ∧
        report.length = (statusReport State.reset).length ∧ report.length ≤ 1492 ∧
        (clear = 1 →
          ∃ t : State,
            exec (.status clear) s = .next (t.returned ⟨.ok, report⟩) ∧
              (∀ c : CarrierId,
                let k := s.car c
                t.car c =
                  { k with
                    lane :=
                      { k.lane with
                        framesSent := 0, framesReceived := 0, discardedOff := 0, unlocked := 0, checkFailures := 0,
                        badStatus := 0, unreadable := 0, formatErrors := 0 }
                    control := { k.control with acquisitions := 0, fallbacks := 0, recoveries := 0, ladderMismatches := 0 }
                    req :=
                      { k.req with
                        stepIssued := 0, urgentIssued := 0, supersedes := 0, upshifts := 0, downshifts := 0, refusals := 0,
                        busyAnswers := 0, timeouts := 0, mismatches := 0, unsolicited := 0 }
                    sched :=
                      { k.sched with
                        requestsTaken := 0, acceptSent := 0, refuseSent := 0, busySent := 0, scheduledMade := 0,
                        forcedMade := 0 }
                    dist :=
                      { k.dist with
                        dataFills := 0, idleFills := 0, patternFills := 0, dataSegments := 0, idleSegments := 0 }
                    test := { k.test with discarded := 0 } }) ∧
              t.site = ⟨0, 0, 0, 0, 0, 0⟩ ∧
              (t.classifier.defaultClass, t.classifier.drops, t.classifier.defaultFrames) = (s.classifier.defaultClass, 0, 0) ∧
              (∀ i : Fin 64, t.classifier.table[i] = { s.classifier.table[i] with hits := 0 }) ∧
              t.admission = { s.admission with counters := Quad.all ⟨0, 0, 0, 0, 0⟩ } ∧
              t.queues = { s.queues with framesStarted := 0 } ∧
              t.reseq =
                ⟨s.reseq.synced, s.reseq.expected, s.reseq.window, s.reseq.gap, s.reseq.lateRun, s.reseq.context, s.reseq.tg,
                  s.reseq.k, 0, 0, 0, 0, 0, 0, 0, 0, 0, 0, 0, 0, 0, 0, 0, 0, 0, 0, 0⟩ ∧
              t.history = s.history ∧
              t.agent =
                ⟨s.agent.typeCode, s.agent.addr, s.agent.queue, s.agent.execution, s.agent.reply, 0, 0, 0, 0, 0, 0, 0, 0⟩ ∧
              t.alert = ⟨0, s.alert.mask⟩ ∧
              (t.filling, t.pins, t.out, t.drawPlan, t.pending) = (s.filling, s.pins, s.out, s.drawPlan, s.pending))

/-- The traffic reset: the Class Queues and the frame in progress are emptied with the sequence counter and frames started kept, the
admitted and drop counters and the hit counters are set to 0 with the shed entries kept, and the Resequencer is UNSYNC with everything but
Tg and K at 0; carriers, ladders, shed state, contributions, limits, latches, the capture and the input queue are kept (R118, R147, R179).
It is taken after a fill that is being carried out is completed (R122; notes/assumptions/7.md). -/
def Obligations.TrafficResetEmptiesTraffic : Prop :=
  ∀ s₀ : State,
    s₀.live →
      let s := s₀.completeFill
      ∃ counters : Quad ClassCounters,
        ∃ table : Vector FlowEntry 64,
          (∀ k : ClassId, counters.get k = ⟨0, 0, 0, 0, (s.admission.counters.get k).shedEntries⟩) ∧
            (∀ i : Fin 64, table[i] = { s.classifier.table[i] with hits := 0 }) ∧
            exec .resetTraffic s₀ =
              .next ({ s with
                classifier := ⟨table, s.classifier.defaultClass, 0, 0⟩
                admission := { s.admission with counters := counters }
                queues := ⟨⟨[], [], [], []⟩, ⟨0, 0, 0, 0⟩, none, s.queues.seq, s.queues.framesStarted⟩
                reseq :=
                  ⟨false, 0, [], none, 0, none, s.reseq.tg, s.reseq.k, 0, 0, 0, 0, 0, 0, 0, 0, 0, 0, 0, 0, 0, 0, 0, 0, 0, 0,
                    0⟩ }.returned ⟨.ok, []⟩)

/-! ### Chapter 6: ingress, classification, admission, shedding -/

/-- An ingress frame arrival through the checks of R101 in their order: a dropped frame increases its one counter and reaches nothing
else; a frame that passes increases the accepted counter, and where the Management Agent recognises it, it is diverted, counted, and joins
the input queue with side SITE, or is dropped with the MGMT DROP latch when the queue holds four. A frame that was arriving before the
RESET line was released is lost (R101, R102, R104, R169); that the operand says which frames those are is the model's choice
(notes/assumptions/21.md), and that a frame of fewer than 4 bytes counts as an FCS error is its reading (notes/assumptions/16.md). -/
def Obligations.IngressDropsAndDiverts : Prop :=
  ∀ (s : State) (f : Frame),
    s.live →
      let at_ (site : SitePort) : Answer State := .next { s with site := site }
      let x := s.site
      let good := 4 ≤ f.length ∧ f.drop (f.length - 4) = fcsBytes (f.take (f.length - 4))
      let mine :=
        14 ≤ f.length ∧ word16 (byteAt f 12) (byteAt f 13) = s.agent.typeCode ∧
          (f.take 6 = [0x02, 0x5A, 0x7E, 0x00, 0x00, s.agent.addr.setWidth 8] ∨
            f.take 6 = [0xFF, 0xFF, 0xFF, 0xFF, 0xFF, 0xFF])
      exec (.ingressFrameArrival ⟨f, false⟩) s = .next s ∧
        (¬ good → exec (.ingressFrameArrival ⟨f, true⟩) s = at_ { x with fcsErrors := bump x.fcsErrors }) ∧
        (good → f.length < 64 → exec (.ingressFrameArrival ⟨f, true⟩) s = at_ { x with shortFrames := bump x.shortFrames }) ∧
        (good → 9600 < f.length → exec (.ingressFrameArrival ⟨f, true⟩) s = at_ { x with longFrames := bump x.longFrames }) ∧
        (good → 64 ≤ f.length → f.length ≤ 9600 → mine →
          let passed : SitePort := { x with accepted := bump x.accepted, diverted := bump x.diverted }
          (s.agent.queue.length < 4 →
              exec (.ingressFrameArrival ⟨f, true⟩) s =
                .next { s with
                  site := passed
                  agent :=
                    { s.agent with
                      queue := s.agent.queue ++ [⟨.site, f⟩]
                      queuedSite := bump s.agent.queuedSite } }) ∧
            (4 ≤ s.agent.queue.length →
              exec (.ingressFrameArrival ⟨f, true⟩) s =
                .next { s with
                  site := passed
                  agent := { s.agent with queueDrops := bump s.agent.queueDrops }
                  alert := s.alert.raise .mgmtDrop }))

/-- A frame that passes the ingress checks and is not the Agent's is decided by the first entry of the Flow Table that matches: a valid
entry whose ranges are not inverted, that takes frames of its kind, and, for a tagged frame, whose VLAN and priority ranges hold the
frame's. That entry's hit counter alone rises; CLASS hands the frame to Class Admission in the entry's class, DROP drops it, and with no
match the default class takes it, each counted (R105, R107, R108). -/
def Obligations.FlowTableDecides : Prop :=
  ∀ (s : State) (f : Frame),
    s.live → fcsGood f = true → 64 ≤ f.length → f.length ≤ 9600 → s.agent.recognises f = false →
      let x := s.classifier
      let tagged := byteAt f 12 = 0x81 ∧ byteAt f 13 = 0x00
      let vlan := (byteAt f 14).toNat % 16 * 256 + (byteAt f 15).toNat
      let prio := (byteAt f 14).toNat / 32
      let takes (e : FlowEntry) : Prop :=
        e.valid = true ∧ e.vlanLow ≤ e.vlanHigh ∧ e.prioLow ≤ e.prioHigh ∧
          if tagged then
            e.tagMatch ≠ .untagged ∧ e.vlanLow ≤ vlan ∧ vlan ≤ e.vlanHigh ∧ e.prioLow ≤ prio ∧ prio ≤ e.prioHigh
          else e.tagMatch ≠ .tagged
      let s1 := { s with site := { s.site with accepted := bump s.site.accepted } }
      (∀ i : Fin 64,
          takes x.table[i] → (∀ j : Fin 64, j < i → ¬ takes x.table[j]) →
            let e := x.table[i]
            let hit := x.table.set i { e with hits := bump e.hits }
            exec (.ingressFrameArrival ⟨f, true⟩) s =
              .next
                (match e.action with
                | .cls => State.admitFrame { s1 with classifier := { x with table := hit } } e.cls f
                | .drop => { s1 with classifier := { x with table := hit, drops := bump x.drops } })) ∧
        ((∀ i : Fin 64, ¬ takes x.table[i]) →
          exec (.ingressFrameArrival ⟨f, true⟩) s =
            .next (State.admitFrame { s1 with classifier := { x with defaultFrames := bump x.defaultFrames } } x.defaultClass f))

/-- Class Admission of a frame of class k with its ceil(n/64) slots, by the first check that fails: a class that is shed, a class limit
that would be passed, too few free slots, each increasing one counter of class k and nothing else; otherwise the frame joins the tail of
its queue, its slots are taken from the free count and added to the class's occupancy, which stays within its limit, and the admitted
frames counter rises. Nothing else of the part changes (R113, R114, R115). -/
def Obligations.AdmissionByFirstFailingCheck : Prop :=
  ∀ (s : State) (k : ClassId) (f : Frame),
    let n := (f.length + 63) / 64
    let a := s.admission
    let q := s.queues
    let free := 16384 - (q.occupancy.get 0 + q.occupancy.get 1 + q.occupancy.get 2 + q.occupancy.get 3)
    let old := a.counters.get k
    ∃ (counters : Quad ClassCounters) (frames : Quad (List Frame)) (occupancy : Quad Nat),
      s.admitFrame k f =
          { s with
            admission := { a with counters := counters }, queues := { q with frames := frames, occupancy := occupancy } } ∧
        (∀ j, j ≠ k →
          counters.get j = a.counters.get j ∧ frames.get j = q.frames.get j ∧ occupancy.get j = q.occupancy.get j) ∧
        if a.shed.get k = true then
          counters.get k = { old with shedDrops := bump old.shedDrops } ∧ frames = q.frames ∧ occupancy = q.occupancy
        else if a.limits.get k < q.occupancy.get k + n then
          counters.get k = { old with limitDrops := bump old.limitDrops } ∧ frames = q.frames ∧ occupancy = q.occupancy
        else if free < n then
          counters.get k = { old with bufferDrops := bump old.bufferDrops } ∧ frames = q.frames ∧ occupancy = q.occupancy
        else
          counters.get k = { old with admitted := bump old.admitted } ∧ frames.get k = q.frames.get k ++ [f] ∧
            occupancy.get k = q.occupancy.get k + n ∧ occupancy.get k ≤ a.limits.get k ∧
            ({ q with frames := frames, occupancy := occupancy } : Queues).free + n = free

/-- One shed evaluation: classes 1, 2 and 3, each by its own threshold, an unshed class with the aggregate below Amin becomes shed and
counts an entry, a shed class with the aggregate at or above Amin plus Ah becomes unshed and signals nothing; the SHED latch is signalled
when at least one class becomes shed; class 0 is not part of it, and nothing else changes (R112). A carrier's signal to Class Admission:
the contribution is the capacity of the outbound profile in RUN and HOLD and 0 in every other state; a value that has not changed signals
nothing, a changed one replaces the carrier's, and one shed evaluation is made exactly when the aggregate differs from the one that stood
(R37, R110). -/
def Obligations.ContributionSignalAndShedEvaluation : Prop :=
  (∀ s : State,
    let a := s.admission
    let sum := a.contributions.get 0 + a.contributions.get 1 + a.contributions.get 2 + a.contributions.get 3
    ∃ (shed : Quad Bool) (counters : Quad ClassCounters) (alert : Alert),
      s.shedEvaluate = { s with admission := { a with shed := shed, counters := counters }, alert := alert } ∧
        shed.get 0 = a.shed.get 0 ∧ counters.get 0 = a.counters.get 0 ∧
        (∀ k : ClassId,
          k ≠ 0 →
            let amin := a.shedTable.get k
            let ah := a.shedTable.get 0
            let old := a.counters.get k
            (a.shed.get k = false → sum < amin →
                shed.get k = true ∧ counters.get k = { old with shedEntries := bump old.shedEntries }) ∧
              (a.shed.get k = true → amin + ah ≤ sum → shed.get k = false ∧ counters.get k = old) ∧
              (a.shed.get k = false → amin ≤ sum → shed.get k = false ∧ counters.get k = old) ∧
              (a.shed.get k = true → sum < amin + ah → shed.get k = true ∧ counters.get k = old)) ∧
        alert =
          if ∃ k : ClassId, k ≠ 0 ∧ a.shed.get k = false ∧ shed.get k = true then s.alert.raise .shed else s.alert) ∧
    (∀ (s : State) (c : CarrierId),
    let k := s.car c
    let v :=
      if k.control.state = .run ∨ k.control.state = .hold then (k.ladder.at k.sched.outbound).capacity else 0
    let old := s.admission.contributions
    let s1 := { s with admission := { s.admission with contributions := old.set c v } }
    (v = old.get c → s.signalContribution c = s) ∧
      (v ≠ old.get c → s.signalContribution c = s1.shedEvaluate) ∧
      (∀ d, d ≠ c → (s.signalContribution c).admission.contributions.get d = old.get d) ∧
      (s.signalContribution c).admission.contributions.get c = v)

/-! ### Chapters 5, 7 and 9: fills, draws, sweeps, the test pattern -/

/-- One draw of a segment: the frame in progress goes on with its next slot; with none, the head frame of the most important class with a
frame leaves its queue and gives slot 0; with nothing held, nothing is drawn. The segment takes the number of the sequence counter and the
slot's bytes, filled with 0 to 64, FIRST at slot 0 and LAST at the last slot; the slot is returned, the counter rises by one, and the
cursor advances or becomes none (R116, R126, R127, R129). The draws of one data fill of a frame with n slots: at most n segments, numbered
one after the other from the sequence counter, which ends behind the last; fewer than n only when no frame is in progress and every queue
is empty; and where the occupancies count the slots held, they still do, each draw having returned one slot (R113, R116, R125, R126). That
frames started counts at the draw of slot 0 is the model's reading of R132 (notes/assumptions/7.md). -/
def Obligations.DrawsTakeSlotsInOrder : Prop :=
  (∀ q : Queues,
    let taken (cu : Cursor) (rest : Queues) : Option (Segment × Queues) :=
      let bytes := (cu.frame.drop (64 * cu.next)).take 64
      let last : Bool := (cu.frame.length + 63) / 64 ≤ cu.next + 1
      some
        ({ seq := q.seq, first := cu.next = 0, last := last, idle := false, count := bytes.length,
           payload := bytes ++ List.replicate (64 - bytes.length) 0 },
          { rest with
            occupancy := q.occupancy.set cu.cls (q.occupancy.get cu.cls - 1)
            seq := q.seq + 1
            cursor := if last then none else some { cu with next := cu.next + 1 }
            framesStarted := if cu.next = 0 then bump q.framesStarted else q.framesStarted })
    (∀ cu, q.cursor = some cu → q.draw = taken cu q) ∧
      (q.cursor = none →
        (∀ (k : ClassId) (f : Frame) (l : List Frame),
            q.frames.get k = f :: l → (∀ j, j < k → q.frames.get j = []) →
              q.draw = taken ⟨f, k, 0⟩ { q with frames := q.frames.set k l }) ∧
          ((∀ k, q.frames.get k = []) → q.draw = none))) ∧
    (∀ (q : Queues) (n : Nat),
    let d := q.drawMany n
    d.1.length ≤ n ∧ d.2.seq = q.seq + BitVec.ofNat 16 d.1.length ∧
      (∀ (i : Nat) (g : Segment), d.1[i]? = some g → g.seq = q.seq + BitVec.ofNat 16 i ∧ g.idle = false) ∧
      (d.1.length < n → d.2.cursor = none ∧ ∀ k, d.2.frames.get k = []) ∧
      (q.heldOk → d.2.heldOk ∧ d.2.occupancy.sum + d.1.length = q.occupancy.sum))

/-- FILL with no request standing changes nothing; otherwise the lowest-numbered carrier whose request stands is granted (R121). The
profile is the scheduled switch's at its SF, else the forced switch's, else the outbound profile, with the switch counted and the forced
switch cleared (R92); an ACTIVE sweep counts the fill (R157); the request is gone and the contribution signalled. In TEST the frame is the
test pattern, in ACQUIRE and FALLBACK every slot is idle, and in RUN and HOLD the data fill begins (R123, R124). A data fill goes on by the
draws that the plan lists, all it has left where it lists none: it waits for the next FILL, and no other is granted, while each of them
gave a segment and the frame has a slot left (R121, R122, R125); then the record is handed over with idle segments behind, Nf is N + 1,
and the fill and its idle segments are counted, its data segments having been counted as they were drawn (R4, R125 to R128, R132). That
moment is the model's reading and the plan its choice (notes/assumptions/7.md). Everything else stays. -/
def Obligations.FillGrantedByChainOrder : Prop :=
  let handed (s : State) (c : CarrierId) (record : FillRecord) (dist : Distributor) : State :=
    s.setCar c
      { s.car c with
        dist := dist
        lane := { (s.car c).lane with records := (s.car c).lane.records ++ [record], nf := some (record.fn + 1) } }
  (∀ s : State, s.live → s.filling = none → (∀ c : CarrierId, (s.car c).dist.request = none) → exec .fill s = .next s) ∧
    (∀ (s : State) (c : CarrierId) (n : FrameNo),
      s.live → s.filling = none → (∀ d : CarrierId, d < c → (s.car d).dist.request = none) → (s.car c).dist.request = some n →
        (s.car c).control.state ≠ .off →
          let k := s.car c
          let top := min k.control.txCeiling (k.ladder.length - 1)
          let atSf : Option Nat := match k.sched.scheduled with | some w => if w.sf = n then some w.granted else none | none => none
          let p : Nat := match atSf with | some g => g | none => k.sched.forced.getD k.sched.outbound
          let chosen : Scheduler :=
            { k.sched with
              outbound := p
              forced := none
              scheduled := if atSf.isSome then none else k.sched.scheduled
              scheduledMade := if atSf.isSome then bump k.sched.scheduledMade else k.sched.scheduledMade
              forcedMade := if atSf = none ∧ k.sched.forced.isSome then bump k.sched.forcedMade else k.sched.forcedMade }
          let reaches : Bool := k.test.sweepActive && decide (k.test.dw ≤ k.test.sweepCount + 1)
          let test : TestUnit :=
            if k.test.sweepActive then
              if k.test.dw ≤ k.test.sweepCount + 1 then
                if k.test.sweepStep < top then { k.test with sweepStep := k.test.sweepStep + 1, sweepCount := 0 }
                else { k.test with sweepActive := false, sweepCount := k.test.sweepCount + 1 }
              else { k.test with sweepCount := k.test.sweepCount + 1 }
            else k.test
          let sched : Scheduler :=
            if reaches && decide (k.test.sweepStep < top) then
              { chosen with forced := some (k.test.sweepStep + 1), scheduled := none }
            else chosen
          let e := k.ladder.at p
          let k' : Carrier := { k with sched := sched, test := test, dist := { k.dist with request := none } }
          let begun : State :=
            ((s.setCar c k').signalIf (reaches && decide (top ≤ k.test.sweepStep)) .sweepDone).signalContribution c
          let record (payload : Payload) : FillRecord :=
            { fn := n, profile := p, modulation := e.modulation, rate := e.rate, capacity := e.capacity, payload := payload,
              firstSeq := 0, dataCount := 0 }
          (k.control.state = .test →
              exec .fill s =
                .next (handed begun c (record (.pattern e.capacity)) { k'.dist with patternFills := bump k.dist.patternFills })) ∧
            (k.control.state = .acquire ∨ k.control.state = .fallback →
              exec .fill s =
                .next (handed begun c (record (.segments (List.replicate e.capacity idleSegment)))
                  { k'.dist with
                    idleFills := bump k.dist.idleFills, idleSegments := bumpBy k.dist.idleSegments e.capacity })) ∧
            (k.control.state = .run ∨ k.control.state = .hold →
              exec .fill s = exec .fill { begun with filling := some ⟨c, n, p, []⟩ })) ∧
      ∀ (s : State) (w : OpenFill),
        s.live → s.filling = some w →
          let k := s.car w.carrier
          let e := k.ladder.at w.profile
          let left := e.capacity - w.drawn.length
          let m := match s.drawPlan with | [] => left | n :: _ => min n left
          let d := s.queues.drawMany m
          let drawn := w.drawn ++ d.1
          let placed : Distributor := { k.dist with dataSegments := bumpBy k.dist.dataSegments d.1.length }
          let t : State := State.setCar { s with queues := d.2, drawPlan := s.drawPlan.tail } w.carrier { k with dist := placed }
          let done : State :=
            handed { t with filling := none } w.carrier
              { fn := w.fn, profile := w.profile, modulation := e.modulation, rate := e.rate, capacity := e.capacity,
                payload := .segments (drawn ++ List.replicate (e.capacity - drawn.length) idleSegment)
                firstSeq := (drawn.head?.map Segment.seq).getD 0, dataCount := drawn.length }
              { placed with
                dataFills := bump k.dist.dataFills
                idleSegments := bumpBy k.dist.idleSegments (e.capacity - drawn.length) }
          exec .fill s =
              .next (if d.1.length = m ∧ drawn.length < e.capacity then { t with filling := some { w with drawn := drawn } } else done) ∧
            (s.drawPlan = [] → s.completeFill = done) ∧
            (∀ (l : List Nat), State.completeFill { s with drawPlan := l } = { s.completeFill with drawPlan := l }) ∧
            ∀ c : CarrierId, s.completeFillOf c = if w.carrier = c then s.completeFill else s

/-- At the fill that brings an ACTIVE sweep's count to Dw, the step is compared with the effective tx ceiling of that fill: below it, the
step rises by one with count 0 and a forced switch to the new step is signalled for the carrier's next fill; otherwise the sweep ends
INACTIVE with its step kept and SWEEP DONE is signalled (R157). That SWEEP_STEP is that fill, carried out whole once a fill being carried
out is completed, is the model's choice (notes/assumptions/4.md, notes/assumptions/7.md). -/
def Obligations.SweepStepsAtDwell : Prop :=
  ∀ (s₀ : State) (c : CarrierId) (n : FrameNo),
    s₀.live → s₀.grant = some (c, n) → (s₀.car c).control.state ≠ .off → (s₀.car c).test.sweepActive = true →
      (s₀.car c).test.dw ≤ (s₀.car c).test.sweepCount + 1 →
        let s := s₀.completeFill
        let u := (s.car c).test
        let top := min (s.car c).control.txCeiling ((s.car c).ladder.length - 1)
        ∃ t, exec .sweepStep s₀ = .next t ∧ (s.drawPlan = [] ∨ (s.car c).control.state = .test → exec .fill s = .next t) ∧
          (∀ d, d ≠ c → t.car d = s.car d) ∧ (t.car c).control = (s.car c).control ∧ (t.car c).req = (s.car c).req ∧
          (t.car c).est = (s.car c).est ∧ (t.car c).ladder = (s.car c).ladder ∧
          (t.site, t.classifier, t.reseq, t.history, t.agent, t.pins, t.out, t.drawPlan, t.pending) =
            (s.site, s.classifier, s.reseq, s.history, s.agent, s.pins, s.out, s.drawPlan, s.pending) ∧
          if u.sweepStep < top then
            (t.car c).test = { u with sweepStep := u.sweepStep + 1, sweepCount := 0 } ∧
              (t.car c).sched.forced = some (u.sweepStep + 1) ∧ (t.car c).sched.scheduled = none ∧
              t.alert.isSet .sweepDone = s.alert.isSet .sweepDone
          else
            (t.car c).test = { u with sweepActive := false, sweepCount := u.sweepCount + 1 } ∧
              (t.car c).sched.forced = none ∧ t.alert.isSet .sweepDone = true

/-! ### Chapters 1 and 2: an inbound frame arrival -/

/-- The judgement of a header (R12) and the values of a good one as the blocks receive them (R13). A header is unlocked without the lock
flag; otherwise the check value over bytes 0 to 11 decides, and then the status code. A good header gives its fields with payload profile,
target and granted profile taken as at most 11, the unused kind code as NONE, and the payload unreadable where the profile named is above
11 or not in the local ladder. The items that an inbound frame gives the Resequencer and its segment format errors: nothing for a bad
header and for a test frame; otherwise, for each slot position below the data count, a segment arrival where the payload is readable and
the slot is valid and well formed, and a loss mark for first sequence plus position elsewhere, an ill-formed valid slot being counted
(R15). Slots beyond the local ladder's capacity of the payload profile are not read (R184); that the lane leaves them out is the model's
reading (notes/assumptions/17.md). -/
def Obligations.HeaderJudgedAndItemsBySlot : Prop :=
  (∀ (len : Nat) (f : InboundFrame),
    (f.lock = false ∨ f.header = none → judgeHeader len f = .error .unlocked) ∧
      ∀ bytes, f.lock = true → f.header = some bytes →
        let b := readHeaderBody bytes
        let st : Option CarrierState :=
          if b.status = 1 then some .acquire else if b.status = 2 then some .run else if b.status = 3 then some .fallback
          else if b.status = 4 then some .hold else if b.status = 5 then some .test else none
        (crc16 (bytes.take 12) ≠ word16 (byteAt bytes 12) (byteAt bytes 13) → judgeHeader len f = .error .checkFailure) ∧
          (crc16 (bytes.take 12) = word16 (byteAt bytes 12) (byteAt bytes 13) →
            (st = none → judgeHeader len f = .error .badStatus) ∧
              ∀ status, st = some status →
                judgeHeader len f =
                  .ok
                    { status := status
                      fn := b.fn
                      profile := min b.profile.toNat 11
                      unreadable := 12 ≤ b.profile.toNat ∨ len ≤ b.profile.toNat
                      ladderCode := b.ladderCode
                      request :=
                        if b.kind = 1 then some ⟨.step, min b.target.toNat 11⟩
                        else if b.kind = 2 then some ⟨.urgent, min b.target.toNat 11⟩ else none
                      reqTag := b.reqTag
                      verdict :=
                        if b.verdict = 1 then some (.accept (min b.granted.toNat 11) b.sf)
                        else if b.verdict = 2 then some .refuse else if b.verdict = 3 then some .busy else none
                      ansTag := b.ansTag
                      firstSeq := b.firstSeq
                      dataCount := b.dataCount.toNat })) ∧
    ((∀ l slots, frameItems l none slots = ([], 0)) ∧
    ∀ (l : Ladder) (h : RxHeader) (given : List InboundSlot),
      let slots := if h.unreadable then given else given.take (tableAt l.entries h.profile ⟨0, 0, 0, 0, 0⟩).capacity
      let ill (sl : InboundSlot) : Bool :=
        (readSegment sl.bytes).idle || decide ((readSegment sl.bytes).count = 0) || decide (64 < (readSegment sl.bytes).count)
      let errs : Nat := ((slots.take h.dataCount).filter (fun sl => !h.unreadable && sl.valid && ill sl)).length
      (h.status = .test → h.dataCount = 0 → frameItems l (some h) given = ([], 0)) ∧
        (¬ (h.status = .test ∧ h.dataCount = 0) →
          (frameItems l (some h) given).1.length = min h.dataCount slots.length ∧ (frameItems l (some h) given).2 = errs ∧
            ∀ (p : Nat) (sl : InboundSlot), p < h.dataCount → slots[p]? = some sl →
              (frameItems l (some h) given).1[p]? =
                some
                  (if !h.unreadable && sl.valid && !ill sl then .segment (readSegment sl.bytes)
                   else .loss (h.firstSeq + BitVec.ofNat 16 p))))

/-- INBOUND_FRAME_ARRIVAL. In OFF the frame is discarded and counted, and nothing else happens (R11). In any other state the lane counts
the frame and its judgement (R12, R13, R16), and the steps of R14 act in their order, each on what the steps before it left: Carrier State
Control with its latches and contribution signal, the estimator, the Requester with its latches, the Scheduler, the Test Unit, History
Capture, and the items handed over behind those that wait, of which the Resequencer then takes as many as the command says. The items
that wait and that operand are the model's choice (notes/assumptions/3.md), an Nf that is absent is read as 0 (notes/assumptions/19.md),
and a fill of the carrier that is being carried out is completed first (R122; notes/assumptions/7.md). -/
def Obligations.InboundArrivalSteps : Prop :=
  ∀ (s₀ : State) (c : CarrierId) (f : InboundFrame) (taken : Nat),
    s₀.live →
      let s := s₀.completeFillOf c
      let k := s.car c
      let j := judgeHeader k.ladder.length f
      let good := goodOf j
      let k1 := k.hear good
      let est := k.est.arrival f
      let lo := min k.control.rxFloor (k.ladder.length - 1)
      let hi := min k.control.rxCeiling (k.ladder.length - 1)
      let top := min k.control.txCeiling (k.ladder.length - 1)
      let m := k1.req.arrival k.ladder k1.control { lo := lo, hi := hi, quality := est.quality, slope := est.slope } good
      let items := frameItems k.ladder good f.slots
      let lane : Lane :=
        { k.lane with
          framesReceived := bump k.lane.framesReceived
          unlocked := if j = .error .unlocked then bump k.lane.unlocked else k.lane.unlocked
          checkFailures := if j = .error .checkFailure then bump k.lane.checkFailures else k.lane.checkFailures
          badStatus := if j = .error .badStatus then bump k.lane.badStatus else k.lane.badStatus
          unreadable :=
            if (match good with | some h => h.unreadable | none => false) then bump k.lane.unreadable else k.lane.unreadable
          handover := k.lane.handover ++ items.1
          formatErrors := bumpBy k.lane.formatErrors items.2 }
      let k' : Carrier :=
        { k1 with
          lane := lane
          est := est
          req := m.1
          sched :=
            k1.sched.arrival (decide (k1.control.state = .run)) (match k.lane.nf with | some n => n | none => 0) top good
          test := k1.test.arrival k1.control.state k.ladder good f.slots }
      let differs : Bool :=
        match good with | some h => decide (k.control.state = .acquire) && decide (h.ladderCode ≠ k.ladder.code) | none => false
      let fell : Bool := decide (k1.control.state = .fallback) && decide (k.control.state ≠ .fallback)
      let urgent : Bool := match m.2.issued with | some r => decide (r.kind = .urgent) | none => false
      let heard := (((s.setCar c k').signalIf differs (.ladderMismatch c)).signalIf fell (.fallback c)).signalContribution c
      let asked := (heard.signalIf m.2.mismatch (.mismatch c)).signalIf urgent (.urgent c)
      let sample : Int := if f.lock then max 0 (k.est.calibrate f.x - k.est.pb * f.b) else 0
      exec (.inboundFrameArrival c f taken) s₀ =
        .next
          (if k.control.state = .off then
             s.setCar c { k with lane := { k.lane with discardedOff := bump k.lane.discardedOff } }
           else
             State.takeItems
               (asked.capture c
                 { fn := good.map RxHeader.fn, x := f.x, sample := sample, est := est, inbound := m.1.inbound, marks := m.2,
                   fallback := fell })
               c taken)

/-- RUN and HOLD: a good header sets the freshness counter to 0 and a bad one raises it to at most 65,535; when it is then at or above Tf
the carrier enters FALLBACK at this arrival: acquisition count 0, the entry counted and latched, the request abandoned with its tag kept,
a forced switch to profile 0 in place of any scheduled one, and the contribution 0; otherwise nothing else changes in step 1 (R20, R23,
R37). In TEST the counter is updated alone. That FALLBACK_ENTRY is that arrival is the model's choice (notes/assumptions/4.md), and so is
that a fill of the carrier being carried out is completed first (notes/assumptions/7.md). -/
def Obligations.FreshnessAndFallback : Prop :=
  ∀ (s₀ : State) (c : CarrierId) (f : InboundFrame) (taken : Nat),
    s₀.live →
      let s := s₀.completeFillOf c
      let k := s.car c
      let good := goodOf (judgeHeader k.ladder.length f)
      let fresh : Nat := if good.isSome then 0 else min (k.control.freshness + 1) 65535
      (k.control.state = .test → k.hear good = { k with control := { k.control with freshness := fresh } }) ∧
        (k.control.state = .run ∨ k.control.state = .hold →
          (fresh < k.control.tf → k.hear good = { k with control := { k.control with freshness := fresh } }) ∧
            (k.control.tf ≤ fresh →
              k.hear good =
                { k with
                  control :=
                    { k.control with
                      state := .fallback, freshness := fresh, acqCount := 0, fallbacks := bump k.control.fallbacks }
                  req := { k.req with state := .idle, timer := 0 }
                  sched := { k.sched with forced := some 0, scheduled := none } } ∧
                ∃ t,
                  exec (.fallbackEntry c f taken) s₀ = .next t ∧ exec (.inboundFrameArrival c f taken) s₀ = .next t ∧
                    (t.car c).control = (k.hear good).control ∧ t.alert.isSet (.fallback c) = true ∧
                    t.admission.contributions = s.admission.contributions.set c 0))

/-- ACQUIRE: a good header with another ladder code sets the count to 0, is counted and latches LADDER MISMATCH; with the same code,
status TEST sets the count to 0 and any other status raises it; a bad header sets it to 0. When the raised count is at or above Na the
carrier enters RUN at this arrival: the acquisition counted, the count 0, the dwell counter 0, the hold-off timer at Th, and the
contribution that of the outbound profile (R21, R22, R37). That ACQUISITION is that arrival is the model's choice
(notes/assumptions/4.md), and so is that a fill of the carrier being carried out is completed first (notes/assumptions/7.md). -/
def Obligations.AcquisitionCountsHeaders : Prop :=
  ∀ (s₀ : State) (c : CarrierId) (f : InboundFrame) (taken : Nat),
    s₀.live → (s₀.car c).control.state = .acquire →
      let s := s₀.completeFillOf c
      let k := s.car c
      let good := goodOf (judgeHeader k.ladder.length f)
      let counted (n : Nat) : Carrier :=
        { k with control := { k.control with freshness := if good.isSome then 0 else min (k.control.freshness + 1) 65535, acqCount := n } }
      (good = none → k.hear good = counted 0) ∧
        ∀ h, good = some h →
          (h.ladderCode ≠ k.ladder.code →
            k.hear good =
              { counted 0 with
                control := { (counted 0).control with ladderMismatches := bump k.control.ladderMismatches } } ∧
            ∃ t, exec (.inboundFrameArrival c f taken) s₀ = .next t ∧ t.alert.isSet (.ladderMismatch c) = true) ∧
          (h.ladderCode = k.ladder.code → h.status = .test → k.hear good = counted 0) ∧
          (h.ladderCode = k.ladder.code → h.status ≠ .test → k.control.acqCount + 1 < k.control.na →
            k.hear good = counted (k.control.acqCount + 1)) ∧
          (h.ladderCode = k.ladder.code → h.status ≠ .test → k.control.na ≤ k.control.acqCount + 1 →
            k.hear good =
              { counted 0 with
                control := { (counted 0).control with state := .run, acquisitions := bump k.control.acquisitions }
                req := { k.req with dwell := 0, holdOff := k.req.th } } ∧
            ∃ t,
              exec (.acquisition c f taken) s₀ = .next t ∧ exec (.inboundFrameArrival c f taken) s₀ = .next t ∧
                (t.car c).control = (k.hear good).control ∧
                t.admission.contributions =
                  s.admission.contributions.set c (tableAt k.ladder.entries k.sched.outbound ⟨0, 0, 0, 0, 0⟩).capacity)

/-- FALLBACK: a good header with a status other than TEST raises the count whatever its ladder code, and any other header sets it to 0.
When the raised count is at or above Na the carrier leaves FALLBACK at this arrival, counted: to RUN with recovery AUTO, with the dwell
counter 0 and the hold-off timer at Th, and to HOLD with recovery LATCH; it contributes its outbound profile's capacity (R22, R24, R25,
R37). That RECOVERY is that arrival is the model's choice (notes/assumptions/4.md), and so is that a fill of the carrier being carried
out is completed first (notes/assumptions/7.md). -/
def Obligations.RecoveryCountsHeaders : Prop :=
  ∀ (s₀ : State) (c : CarrierId) (f : InboundFrame) (taken : Nat),
    s₀.live → (s₀.car c).control.state = .fallback →
      let s := s₀.completeFillOf c
      let k := s.car c
      let good := goodOf (judgeHeader k.ladder.length f)
      let counted (n : Nat) : Carrier :=
        { k with control := { k.control with freshness := if good.isSome then 0 else min (k.control.freshness + 1) 65535, acqCount := n } }
      (good = none → k.hear good = counted 0) ∧
        ∀ h, good = some h →
          (h.status = .test → k.hear good = counted 0) ∧
          (h.status ≠ .test → k.control.acqCount + 1 < k.control.na → k.hear good = counted (k.control.acqCount + 1)) ∧
          (h.status ≠ .test → k.control.na ≤ k.control.acqCount + 1 →
            k.hear good =
              { counted 0 with
                control :=
                  { (counted 0).control with
                    state := if k.control.recovery = .auto then .run else .hold
                    recoveries := bump k.control.recoveries }
                req := if k.control.recovery = .auto then { k.req with dwell := 0, holdOff := k.req.th } else k.req } ∧
            ∃ t,
              exec (.recovery c f taken) s₀ = .next t ∧ exec (.inboundFrameArrival c f taken) s₀ = .next t ∧
                (t.car c).control = (k.hear good).control ∧
                t.admission.contributions =
                  s.admission.contributions.set c (tableAt k.ladder.entries k.sched.outbound ⟨0, 0, 0, 0, 0⟩).capacity)

/-! ### Chapters 3 to 5, 9 and 10: the blocks of a carrier at an arrival -/

/-- One arrival at the Quality Estimator: x is clamped and interpolated on the calibration curve with floors (R44), the penalty taken off
down to 0, and 0 stands for an unlocked frame (R45); a first sample loads the level and clears the slope (R46), any other moves the level
by the fall or rise shift and the slope by the slope shift, clamped (R47, R48); the prediction is clamped and the decision level is its
floor over 32 (R49, R50). With a curve within 400 the sample lies between its two points and within 0 to 400, and the new level between
the old one and the target. -/
def Obligations.EstimatorArrival : Prop :=
  ∀ (e : Estimator) (f : InboundFrame),
    let x := min f.x 1023
    let point (i : Nat) : Int := (tableAt e.curve i 0 : Nat)
    let left := point (x / 64)
    let right := point (x / 64 + 1)
    let calibrated : Int := left + ((right - left) * (x % 64 : Nat) + 32) / 64
    let sample : Int := if f.lock then max 0 (calibrated - e.pb * f.b) else 0
    let target := 32 * sample
    let level : Int :=
      if e.firstSample then target
      else if target < e.level then e.level + (target - e.level) / (2 ^ e.ad : Nat)
      else e.level + (target - e.level) / (2 ^ e.au : Nat)
    let slope : Int :=
      if e.firstSample then 0
      else max (-2048) (min (e.slope + (level - e.level - e.slope) / (2 ^ e.bs : Nat)) 2048)
    let predicted : Int := max 0 (min (level + e.lp * min slope 0) 12800)
    e.arrival f =
        { e with level := level, slope := slope, predicted := predicted, quality := predicted / 32, firstSample := false } ∧
      (min left right ≤ calibrated ∧ calibrated ≤ max left right) ∧
        ((∀ p ∈ e.curve.toList, p ≤ 400) → 0 ≤ sample ∧ sample ≤ 400) ∧
          (e.firstSample = false → min e.level target ≤ level ∧ level ≤ max e.level target)

/-- An arrival that finds the Requester IDLE: the hold-off timer counts it (R68), a good header sets the inbound profile, a change being
unsolicited and clearing the dwell counter (R84), and in RUN and HOLD one decision is taken (R67). ADAPTIVE: out of window, downshift,
upshift, in that order, HOLD taking no upward case (R69, R70); a downshift lands on the highest entry that Q still holds, is URGENT at two
steps or a steep slope, and starts the hold-off (R71); an upshift waits for the hold-off and Nu arrivals above the next enter threshold
(R72). FIXED asks for the fixed profile clamped into the window (R73). A request takes a new tag and starts the request timer (R74). A
decision brings the window it reads into use (R34, R98), whose lower end is kept: the model's reading (notes/assumptions/28.md). -/
def Obligations.IdleRequesterDecides : Prop :=
  ∀ (q : Requester) (l : Ladder) (x : Control) (v : View) (good : Option RxHeader),
    q.state = .idle →
      let k : Nat := match good with | some h => h.profile | none => q.inbound
      let q' : Requester :=
        { q with
          decidedLo := if x.state = .run ∨ x.state = .hold then v.lo else q.decidedLo
          holdOff := q.holdOff - 1
          inbound := k
          dwell := if k = q.inbound then q.dwell else 0
          unsolicited := if k = q.inbound then q.unsolicited else bump q.unsolicited }
      let held (i : Nat) : Int := if i = 0 then 0 else ((tableAt l.entries i ⟨0, 0, 0, 0, 0⟩).hold : Nat)
      let enter : Int := ((tableAt l.entries (k + 1) ⟨0, 0, 0, 0, 0⟩).enter : Nat)
      let running : Bool := x.state = .run
      let quiet (n : Nat) : Marked := ({ q' with dwell := n }, Marks.none)
      let asks (r : Request) (holdOff : Nat) : Marked :=
        ({ q' with
           dwell := 0
           holdOff := holdOff
           tag := q.tag + 1
           state := .requesting r
           timer := q.tr
           stepIssued := if r.kind = .step then bump q.stepIssued else q.stepIssued
           urgentIssued := if r.kind = .urgent then bump q.urgentIssued else q.urgentIssued },
          { Marks.none with issued := some r })
      let m := q.arrival l x v good
      (x.state ≠ .run → x.state ≠ .hold → m = quiet 0) ∧
        (x.state = .run ∨ x.state = .hold →
          (x.mode = .fixed →
            let t := max v.lo (min x.fixedProfile v.hi)
            ((running = true ∧ t ≠ k) ∨ t < k → m = asks ⟨.step, t⟩ (q.holdOff - 1)) ∧
              (¬ ((running = true ∧ t ≠ k) ∨ t < k) → m = quiet 0)) ∧
          (x.mode = .adaptive →
            (v.hi < k → m = asks ⟨.step, v.hi⟩ (q.holdOff - 1)) ∧
            (k ≤ v.hi → running = true → k < v.lo → m = asks ⟨.step, v.lo⟩ (q.holdOff - 1)) ∧
            (k ≤ v.hi → v.lo < k → v.quality < held k →
              ∃ j, v.lo ≤ j ∧ j < k ∧ (held j ≤ v.quality ∨ j = v.lo) ∧ (∀ i, j < i → i < k → v.quality < held i) ∧
                m = asks ⟨if 2 ≤ k - j ∨ v.slope ≤ q.gu then .urgent else .step, j⟩ q.th) ∧
            (v.lo ≤ k → ¬ (v.lo < k ∧ v.quality < held k) → k < v.hi → running = true →
              (q.holdOff - 1 ≠ 0 ∨ v.quality < enter → m = quiet 0) ∧
              (q.holdOff - 1 = 0 → enter ≤ v.quality → q'.dwell + 1 < q.nu → m = quiet (q'.dwell + 1)) ∧
              (q.holdOff - 1 = 0 → enter ≤ v.quality → q.nu ≤ q'.dwell + 1 → m = asks ⟨.step, k + 1⟩ 0)) ∧
            (k ≤ v.hi → ¬ (v.lo < k ∧ v.quality < held k) → (running = false ∨ (v.lo ≤ k ∧ k = v.hi)) → m = quiet 0)))

/-- An arrival that finds a request outstanding. A good header's answer with the current tag is taken in REQUESTING: REFUSE and BUSY end
the request, REFUSE starting the hold-off; ACCEPT of the present profile ends it; ACCEPT of another profile g is PENDING until a header
that has reached SF (R80 to R83). There a payload profile g completes the switch and any other is a mismatch; a change before SF is a
mismatch too; the inbound profile follows every good header, unsolicited where nothing was PENDING (R83, R84). Only while the request
still stands is it superseded by an URGENT downshift, in ADAPTIVE mode in RUN or HOLD where it is a STEP (R67, R75); that the stored hold
thresholds are read there also at indices from the ladder length upwards, and that the window there is that of the last decision taken in
IDLE (R98), are the model's readings (notes/assumptions/27.md, notes/assumptions/28.md). An ended request leaves no decision at this
arrival. -/
def Obligations.OutstandingRequestAtArrival : Prop :=
  ∀ (q : Requester) (l : Ladder) (x : Control) (v : View),
    let stands (p : Requester) (r : Request) (answer : Bool) : Marked :=
      let k := p.inbound
      let lo := q.decidedLo
      let j := landing l v.quality lo (k - lo)
      let urgent : Request := ⟨.urgent, j⟩
      let marks := { Marks.none with answerTaken := answer }
      if r.kind = .step ∧ x.mode = .adaptive ∧ (x.state = .run ∨ x.state = .hold) ∧ lo < k ∧ v.quality < (l.holdAt k : Int) ∧
          (2 ≤ k - j ∨ v.slope ≤ q.gu) then
        ({ p with
           dwell := 0, holdOff := q.th, supersedes := bump q.supersedes, tag := q.tag + 1, state := .requesting urgent, timer := q.tr,
           urgentIssued := bump q.urgentIssued },
          { marks with issued := some urgent })
      else ({ p with dwell := 0 }, marks)
    let follows (p : Requester) (h : RxHeader) : Requester :=
      { p with
        holdOff := q.holdOff - 1
        inbound := h.profile
        dwell := if h.profile = q.inbound then q.dwell else 0 }
    let unsolicited (p : Requester) (h : RxHeader) : Requester :=
      { follows p h with unsolicited := if h.profile = q.inbound then q.unsolicited else bump q.unsolicited }
    let ends (h : RxHeader) (g : Nat) (answer : Bool) (timer : Nat) : Marked :=
      let p : Requester := { follows q h with state := .idle, timer := timer }
      if h.profile = g then
        (if q.inbound < g then { p with upshifts := bump q.upshifts } else { p with downshifts := bump q.downshifts },
          { Marks.none with answerTaken := answer, completed := true })
      else ({ p with mismatches := bump q.mismatches }, { Marks.none with answerTaken := answer, mismatch := true })
    let early (h : RxHeader) (answer : Bool) (timer : Nat) : Marked :=
      ({ follows q h with state := .idle, timer := timer, mismatches := bump q.mismatches },
        { Marks.none with answerTaken := answer, mismatch := true })
    (∀ r, q.state.outstanding = some r →
        q.arrival l x v none = stands { q with holdOff := q.holdOff - 1 } r false) ∧
      (∀ r h, q.state = .requesting r →
        let m := q.arrival l x v (some h)
        (h.verdict = none ∨ h.ansTag ≠ q.tag → m = stands (unsolicited q h) r false) ∧
          (h.ansTag = q.tag →
            (h.verdict = some .refuse →
              m = ({ unsolicited q h with state := .idle, timer := 0, holdOff := q.th, refusals := bump q.refusals },
                { Marks.none with answerTaken := true })) ∧
            (h.verdict = some .busy →
              m = ({ unsolicited q h with state := .idle, timer := 0, busyAnswers := bump q.busyAnswers },
                { Marks.none with answerTaken := true })) ∧
            ∀ g sf, h.verdict = some (.accept g sf) →
              (g = q.inbound → m = ({ unsolicited q h with state := .idle, timer := 0 }, { Marks.none with answerTaken := true })) ∧
              (g ≠ q.inbound → reached h.fn sf = true → m = ends h g true 0) ∧
              (g ≠ q.inbound → reached h.fn sf = false → h.profile ≠ q.inbound → m = early h true 0) ∧
              (g ≠ q.inbound → reached h.fn sf = false → h.profile = q.inbound →
                m = stands { follows q h with state := .pending r g sf, timer := 0 } r true))) ∧
        ∀ r g sf h, q.state = .pending r g sf →
          let m := q.arrival l x v (some h)
          (reached h.fn sf = true → m = ends h g false q.timer) ∧
            (reached h.fn sf = false → h.profile ≠ q.inbound → m = early h false q.timer) ∧
            (reached h.fn sf = false → h.profile = q.inbound → m = stands (follows q h) r false)

/-- The Scheduler at an arrival: a bad header changes nothing; status ACQUIRE forgets the last answer (R87); a request whose tag is not
the last answer's is taken, counted and answered (R88): REFUSE outside RUN; URGENT accepted for Nf with the smaller of target and ceiling,
in place of any scheduled switch; STEP answered BUSY while a switch is scheduled, and otherwise accepted for Nf plus Ds; a switch to the
outbound profile is not scheduled (R89). The answer stands as the last-answer record (R90). -/
def Obligations.SchedulerAnswersRequests : Prop :=
  ∀ (d : Scheduler) (running : Bool) (nf : FrameNo) (ceil : Nat),
    d.arrival running nf ceil none = d ∧
      ∀ h : RxHeader,
        let d0 : Scheduler := { d with answer := if h.status = .acquire then none else d.answer }
        let t := d.arrival running nf ceil (some h)
        (h.request = none → t = d0) ∧
          ∀ r, h.request = some r →
            let g := min r.target ceil
            let taken : Scheduler := { d0 with requestsTaken := bump d.requestsTaken }
            (∀ a, d0.answer = some a → a.tag = h.reqTag → t = d0) ∧
              ((∀ a, d0.answer = some a → a.tag ≠ h.reqTag) →
                (running = false → t = { taken with answer := some ⟨h.reqTag, .refuse⟩, refuseSent := bump d.refuseSent }) ∧
                (running = true → r.kind = .urgent →
                  t = { taken with
                        answer := some ⟨h.reqTag, .accept g nf⟩, acceptSent := bump d.acceptSent
                        scheduled := if g = d.outbound then none else some ⟨g, nf, h.reqTag⟩ }) ∧
                (running = true → r.kind = .step → d.scheduled ≠ none →
                  t = { taken with answer := some ⟨h.reqTag, .busy⟩, busySent := bump d.busySent }) ∧
                (running = true → r.kind = .step → d.scheduled = none →
                  t = { taken with
                        answer := some ⟨h.reqTag, .accept g (nf + BitVec.ofNat 12 d.ds)⟩, acceptSent := bump d.acceptSent
                        scheduled := if g = d.outbound then none else some ⟨g, nf + BitVec.ofNat 12 d.ds, h.reqTag⟩ }))

/-- The bits of the test pattern, each byte most significant bit first: the first fourteen are 0 and the fifteenth is 1, and every later
bit is the exclusive-or of the bits 15 and 14 places before it (R150). The Test Unit at an arrival. In TEST a readable test frame is
compared with the pattern over the slots of its profile's capacity K, each bit of a valid slot that differs from the pattern bit at its
place being one error and a slot that is not valid, or was not handed over (notes/assumptions/17.md), 544 of them, and the row of its
payload profile counts the frame, the errors and whether there was one (R152); a bad header and an unreadable test frame are lost test
frames and any other good header a non-test frame (R153). Outside TEST a test frame is counted as discarded and nothing else happens
(R154). -/
def Obligations.TestPatternAndTestFrames : Prop :=
  (∀ n : Nat,
    let bits := (patternBytes n).flatMap bitsMsbFirst
    bits.length = 8 * n ∧
      (∀ i, i < 15 → i < 8 * n → bits[i]? = some (decide (i = 14))) ∧
      ∀ i, 15 ≤ i → i < 8 * n → bits[i]? = some (xor (bits.getD (i - 15) false) (bits.getD (i - 14) false))) ∧
    (∀ (t : TestUnit) (l : Ladder) (slots : List InboundSlot),
    (t.arrival .test l none slots = { t with lostFrames := bump t.lostFrames }) ∧
      (∀ st, st ≠ .test → t.arrival st l none slots = t) ∧
      ∀ h : RxHeader,
        let test := h.status = .test ∧ h.dataCount = 0
        (∀ st, st ≠ .test → t.arrival st l (some h) slots = if test then { t with discarded := bump t.discarded } else t) ∧
          (¬ test → t.arrival .test l (some h) slots = { t with nonTest := bump t.nonTest }) ∧
          (test → h.unreadable = true → t.arrival .test l (some h) slots = { t with lostFrames := bump t.lostFrames }) ∧
          (test → h.unreadable = false → (∀ sl ∈ slots, sl.bytes.length = 68) →
            let cap := (tableAt l.entries h.profile ⟨0, 0, 0, 0, 0⟩).capacity
            let pattern := (patternBytes (cap * 68)).flatMap bitsMsbFirst
            let wrong (n : Nat) : Bool :=
              match slots[n / 544]? with
              | some sl => !sl.valid || decide ((sl.bytes.flatMap bitsMsbFirst)[n % 544]? ≠ pattern[n]?)
              | none => true
            let errors := ((List.range (cap * 544)).filter wrong).length
            let row := tableAt t.rows h.profile ⟨0, 0, 0⟩
            t.arrival .test l (some h) slots =
              { t with
                rows :=
                  t.rows.setIfInBounds h.profile
                    { checked := bump row.checked
                      errored := if 0 < errors then bump row.errored else row.errored
                      bitErrors := bumpBy row.bitErrors errors } }))

/-- History Capture at step 6 of an arrival: nothing in IDLE and DONE and for another carrier; otherwise one record after the newest, the
oldest leaving a ring of 512 (R161). In ARMED the trigger is tested on that record: it marks the record and makes POST with one post
record; POST counts its records; and when they are at or above the post count the capture is DONE, NORMAL, with its latch (R162, R163).
That CAPTURE_DONE is that arrival is the model's choice (notes/assumptions/4.md). -/
def Obligations.CaptureRecordsArrival : Prop :=
  (∀ (s : State) (c : CarrierId) (o : Observation),
    let y := s.history
    let r : Record :=
      { fn := o.fn, x := o.x, sample := o.sample, level := o.est.level, slope := o.est.slope, quality := o.est.quality,
        inbound := o.inbound, issued := o.marks.issued, answerTaken := o.marks.answerTaken, completed := o.marks.completed,
        mismatch := o.marks.mismatch, fallback := o.fallback
        outOfOrder := match o.fn, y.lastFn with | some a, some b => decide (2048 ≤ (a - (b + 1)).toNat) | _, _ => false
        trigger := false }
    let fires : Bool :=
      match y.trigger with
      | .immediate => true
      | .anyDownshift => match o.marks.issued with | some q => decide (q.target < o.inbound) | none => false
      | .urgent => match o.marks.issued with | some q => decide (q.kind = .urgent) | none => false
      | .fallback => o.fallback
      | .mismatch => o.marks.mismatch
    let ring (x : Record) := (if y.ring.length < 512 then y.ring else y.ring.drop 1) ++ [x]
    let last : Option FrameNo := if o.fn = none then y.lastFn else o.fn
    let done (z : History) : State :=
      if z.post ≤ z.postRecords then { s with history := { z with state := .done, cause := .normal } }.signal .captureDone
      else { s with history := z }
    (c ≠ y.carrier ∨ y.state = .idle ∨ y.state = .done → s.capture c o = s) ∧
      (c = y.carrier → y.state = .armed → fires = false → s.capture c o = { s with history := { y with ring := ring r, lastFn := last } }) ∧
      (c = y.carrier → y.state = .armed → fires = true →
        s.capture c o = done { y with ring := ring { r with trigger := true }, lastFn := last, state := .post, postRecords := 1 }) ∧
      (c = y.carrier → y.state = .post →
        s.capture c o = done { y with ring := ring r, lastFn := last, postRecords := y.postRecords + 1 })) ∧
    ∀ (s : State) (f : InboundFrame) (taken : Nat),
      s.live → (s.car s.history.carrier).control.state ≠ .off →
        (s.history.state = .armed ∧ s.history.trigger = .immediate ∧ s.history.post ≤ 1) ∨
            (s.history.state = .post ∧ s.history.post ≤ s.history.postRecords + 1) →
          ∃ t,
            exec (.captureDone s.history.carrier f taken) s = .next t ∧
              exec (.inboundFrameArrival s.history.carrier f taken) s = .next t ∧
              (t.history.state, t.history.cause) = (.done, .normal) ∧ t.alert.isSet .captureDone = true

/-! ### Chapter 8: the Resequencer -/

/-- SEGMENT_ARRIVAL of the oldest item that waits at a lane, by its distance from E: in window it is stored and counted in its empty position, or is a
duplicate of what stands there; behind E it is late, and the K-th late segment in a row makes a resync; ahead of the window it makes a
resync; and after a resync, as in UNSYNC, a segment with FIRST starts the sequence at position 0 and any other is discarded (R136 to
R139). After a store, delivery runs. Which item is the oldest (notes/assumptions/3.md) and that LATE_RESYNC is the arrival of that K-th
late segment (notes/assumptions/4.md) is the model's choice; that the store in UNSYNC leaves segments stored as it is, is the model's
reading of R136 (notes/assumptions/12.md). -/
def Obligations.SegmentArrivalByDistance : Prop :=
  (∀ (w : List (Nat × Slot)) (d : Nat) (x : Slot),
    windowOk w = true → d < 4096 → windowAt w d = none →
      windowOk (windowPut d x w) = true ∧ ∀ j, windowAt (windowPut d x w) j = if j = d then some x else windowAt w j) ∧
    ∀ (s : State) (c : CarrierId) (g : Segment) (rest : List Item),
      s.live → (s.car c).lane.handover = .segment g :: rest →
        let s0 := s.setCar c { s.car c with lane := { (s.car c).lane with handover := rest } }
        let r := s.reseq
        let d := (g.seq - r.expected).toNat
        let asUnsync (r' : Reseq) : State :=
          if g.first then
            State.deliverFrom
              { s0 with reseq := { r' with expected := g.seq, synced := true, lateRun := 0, window := [(0, .segment g)] } } r.expected
          else { s0 with reseq := { r' with unsyncedDiscards := bump r'.unsyncedDiscards } }
        let resync (r' : Reseq) : Reseq :=
          { r' with
            resyncLosses := bumpBy r'.resyncLosses r'.window.length
            window := []
            resyncFrameDiscards := if r'.context = none then r'.resyncFrameDiscards else bump r'.resyncFrameDiscards
            context := none, gap := none, lateRun := 0, synced := false
            resyncs := bump r'.resyncs }
        (r.synced = false → exec (.segmentArrival c) s = .next (asUnsync r)) ∧
          (r.synced = true →
            (d < 4096 → windowAt r.window d = none →
              exec (.segmentArrival c) s =
                .next
                  (State.deliverFrom
                    { s0 with reseq := { r with window := windowPut d (.segment g) r.window, stored := bump r.stored, lateRun := 0 } }
                    r.expected)) ∧
            (d < 4096 → windowAt r.window d ≠ none →
              exec (.segmentArrival c) s =
                .next { s0 with reseq := { r with duplicates := bump r.duplicates, lateRun := 0 } }) ∧
            (4096 ≤ d → d < 32768 → exec (.segmentArrival c) s = .next (asUnsync (resync r))) ∧
            (32768 ≤ d →
              let late : Reseq := { r with late := bump r.late, lateRun := r.lateRun + 1 }
              (r.lateRun + 1 < r.k → exec (.segmentArrival c) s = .next { s0 with reseq := late }) ∧
                (r.k ≤ r.lateRun + 1 →
                  exec (.segmentArrival c) s = .next (asUnsync { resync late with lateResyncs := bump r.lateResyncs }) ∧
                    exec (.lateResync c) s = exec (.segmentArrival c) s)))

/-- Delivery: while position 0 holds something it is taken, E advances, the window moves down and it is handed to reassembly; it stops at
an empty position 0 (R141). Then the gap timer is re-examined: stopped where no later position is occupied, otherwise started at Tg if it
was stopped or E has changed since the event began, and left running if not (R142). -/
def Obligations.DeliveryRunsInOrder : Prop :=
  ∀ s : State,
    (∀ x, windowOk s.reseq.window = true → windowAt s.reseq.window 0 = some x →
      ∃ w : List (Nat × Slot),
        (∀ j, windowAt w j = windowAt s.reseq.window (j + 1)) ∧ windowOk w = true ∧
          s.deliver =
            (State.handOver { s with reseq := { s.reseq with window := w, expected := s.reseq.expected + 1 } } x).deliver) ∧
      (windowAt s.reseq.window 0 = none → windowOk s.reseq.window = true → s.deliver = s) ∧
      (windowOk s.reseq.window = true →
        windowOk s.deliver.reseq.window = true ∧ windowAt s.deliver.reseq.window 0 = none) ∧
      ∀ before : SeqNo,
        let t := s.deliver
        let gap : Option Nat :=
          if t.reseq.window = [] then none
          else
            match t.reseq.gap with
            | none => some t.reseq.tg
            | some v => if t.reseq.expected = before then some v else some t.reseq.tg
        windowOk s.reseq.window = true → s.deliverFrom before = { t with reseq := { t.reseq with gap := gap } }

/-- LOSS_MARK of the oldest item that waits at a lane: in SYNC, for an empty position of the window, a lost mark is stored there, counted,
and delivery runs; every other mark is ignored and counted (R140). TICK: a running gap timer is decreased, and where it reaches 0 the gap
expires: every position before the first occupied one is marked lost, the expiry and the positions are counted, and delivery runs (R142,
R143). A stopped timer counts nothing. Which item is the oldest (notes/assumptions/3.md) and that GAP_EXPIRY is that tick
(notes/assumptions/4.md) is the model's choice. -/
def Obligations.LossMarksAndGaps : Prop :=
  (∀ (s : State) (c : CarrierId) (q : SeqNo) (rest : List Item),
    s.live → (s.car c).lane.handover = .loss q :: rest →
      let s0 := s.setCar c { s.car c with lane := { (s.car c).lane with handover := rest } }
      let r := s.reseq
      let d := (q - r.expected).toNat
      (r.synced = true ∧ d < 4096 ∧ windowAt r.window d = none →
        exec (.lossMark c) s =
          .next
            (State.deliverFrom
              { s0 with reseq := { r with window := windowPut d .lost r.window, marksTaken := bump r.marksTaken } } r.expected)) ∧
        (¬ (r.synced = true ∧ d < 4096 ∧ windowAt r.window d = none) →
          exec (.lossMark c) s = .next { s0 with reseq := { r with marksIgnored := bump r.marksIgnored } })) ∧
    ∀ s : State, s.live →
      (s.reseq.gap = none → exec .tick s = .next s) ∧
        ∀ v, s.reseq.gap = some v →
          (1 < v → exec .tick s = .next { s with reseq := { s.reseq with gap := some (v - 1) } }) ∧
            (v ≤ 1 →
              ∀ (n : Nat) (x : Slot), windowOk s.reseq.window = true → windowAt s.reseq.window n = some x →
                (∀ j, j < n → windowAt s.reseq.window j = none) →
                  ∃ w : List (Nat × Slot),
                    windowOk w = true ∧ (∀ j, windowAt w j = if j < n then some .lost else windowAt s.reseq.window j) ∧
                      exec .tick s =
                        .next
                          (State.deliverFrom
                            { s with
                              reseq :=
                                { s.reseq with
                                  gap := none, window := w, gapExpiries := bump s.reseq.gapExpiries
                                  gapPositionsLost := bumpBy s.reseq.gapPositionsLost n } }
                            s.reseq.expected) ∧
                      exec .gapExpiry s = exec .tick s)

/-- Reassembly of what delivery hands over, row by row (R144): FIRST begins a frame, discarding a partial one; a later segment extends the
frame in progress up to 150 segments, beyond which it is discarded; a segment without a frame is an orphan; LAST completes the frame. A
lost position discards the frame in progress with the RESEQ LOSS latch (R145). A complete frame that the Management Agent recognises joins
its input queue from the radio side, or is dropped with MGMT DROP when four wait; every other goes to egress (R103, R146, R167, R169). -/
def Obligations.ReassemblyRows : Prop :=
  ∀ s : State,
    let on (u : State) (r : Reseq) : State := { u with reseq := r }
    let complete (u : State) (f : Frame) : State :=
      let mine :=
        14 ≤ f.length ∧ word16 (byteAt f 12) (byteAt f 13) = u.agent.typeCode ∧
          (f.take 6 = [0x02, 0x5A, 0x7E, 0x00, 0x00, u.agent.addr.setWidth 8] ∨ f.take 6 = [0xFF, 0xFF, 0xFF, 0xFF, 0xFF, 0xFF])
      if mine then
        let v := on u { u.reseq with framesToManagement := bump u.reseq.framesToManagement }
        if u.agent.queue.length < 4 then
          { v with agent := { u.agent with queue := u.agent.queue ++ [⟨.radio, f⟩], queuedRadio := bump u.agent.queuedRadio } }
        else { v with agent := { u.agent with queueDrops := bump u.agent.queueDrops } }.signal .mgmtDrop
      else
        { on u { u.reseq with framesToEgress := bump u.reseq.framesToEgress } with
          site := { u.site with egressDelivered := bump u.site.egressDelivered }
          out := { u.out with egress := u.out.egress ++ [f] } }
    (∀ g : Segment,
      let bytes := g.payload.take g.count
      let begins (r : Reseq) : State :=
        if g.last then complete (on s { r with context := none }) bytes else on s { r with context := some ⟨1, bytes⟩ }
      (g.first = true → s.reseq.context = none → s.handOver (.segment g) = begins s.reseq) ∧
        (g.first = true → s.reseq.context ≠ none →
          s.handOver (.segment g) = begins { s.reseq with partialDiscards := bump s.reseq.partialDiscards }) ∧
        (g.first = false → s.reseq.context = none →
          s.handOver (.segment g) = on s { s.reseq with orphans := bump s.reseq.orphans }) ∧
        ∀ cx, s.reseq.context = some cx → g.first = false →
          (150 ≤ cx.count →
            s.handOver (.segment g) = on s { s.reseq with context := none, oversizeDiscards := bump s.reseq.oversizeDiscards }) ∧
          (cx.count < 150 →
            s.handOver (.segment g) =
              if g.last then complete (on s { s.reseq with context := none }) (cx.bytes ++ bytes)
              else on s { s.reseq with context := some ⟨cx.count + 1, cx.bytes ++ bytes⟩ })) ∧
      (s.reseq.context = none → s.handOver .lost = on s { s.reseq with lostDelivered := bump s.reseq.lostDelivered }) ∧
      (s.reseq.context ≠ none →
        s.handOver .lost =
          (on s
            { s.reseq with
              lostDelivered := bump s.reseq.lostDelivered, context := none
              lossDiscards := bump s.reseq.lossDiscards }).signal .reseqLoss)

/-! ### Chapter 11: a management frame -/

/-- MANAGEMENT_FRAME_EXECUTION of the frame at the head of the input queue. A malformed frame is dropped with the MGMT DROP latch and a
response is ignored, neither running a command (R170). A frame of commands is run command by command, each taken whole: one of an unknown
code or of a wrong length, or whose entry would not fit, is refused without effect; any other has its own rule's effect; each adds its
entry, and a DEVICE reset cuts the frame short (R171 to R173). When none is left the response is built with the source address of the
command frame, this part's address, the type code that stands, the RESPONSE flag and the entries in order, padded to 64 bytes; it is
counted and goes to egress or to class 0, and the frame leaves the queue (R173, R174). How many commands run before another event is the
model's choice (notes/assumptions/5.md); that a frame below 21 bytes is malformed and that the 64 bytes count the check sequence
(notes/assumptions/14.md), and what check 3 measures of a command its own rule would refuse (notes/assumptions/15.md), are its reading. -/
def Obligations.ManagementFrameExecution : Prop :=
  ∀ (s : State) (n : Nat),
    s.live →
      (s.agent.execution = none → s.agent.queue = [] → exec (.managementFrameExecution n) s = .next s) ∧
      (∀ q rest, s.agent.execution = none → s.agent.queue = q :: rest →
        let f := q.frame
        let left : State := { s with agent := { s.agent with queue := rest } }
        let good := 21 ≤ f.length ∧ byteAt f 14 = 1
        let isResponse := (byteAt f 15).getLsbD 0 = true
        let entries := readCommands (byteAt f 16).toNat ((f.take (f.length - 4)).drop 17)
        (¬ good ∨ (¬ isResponse ∧ entries = none) →
          exec (.managementFrameExecution n) s =
            .next ({ left with agent := { left.agent with malformed := bump s.agent.malformed } }.signal .mgmtDrop)) ∧
        (good → isResponse →
          exec (.managementFrameExecution n) s =
            .next { left with agent := { left.agent with ignored := bump s.agent.ignored } }) ∧
        ∀ l, good → ¬ isResponse → entries = some l →
          exec (.managementFrameExecution n) s =
            exec (.managementFrameExecution n) { s with agent := { s.agent with execution := some ⟨l, []⟩ } }) ∧
      (∀ raw rest done, s.agent.execution = some ⟨raw :: rest, done⟩ →
        exec (.managementFrameExecution 0) s = .next s ∧
          (decodeCommand raw.code raw.args = .ok .resetDevice → exec (.managementFrameExecution (n + 1)) s = .next s.deviceReset) ∧
          (decodeCommand raw.code raw.args ≠ .ok .resetDevice →
            let used := 3 + (done.flatMap entryBytes).length
            let ran : Reply × State :=
              match decodeCommand raw.code raw.args with
              | .error e => (⟨e, []⟩, s)
              | .ok x =>
                if used + 5 + successLength x s + 5 * rest.length ≤ 1500 then runCommand x s else (⟨.tooLong, []⟩, s)
            let t := ran.2.returned ran.1
            exec (.managementFrameExecution (n + 1)) s =
              exec (.managementFrameExecution n)
                { t with
                  agent :=
                    { t.agent with
                      execution := some ⟨rest, done ++ [⟨raw.code, raw.tag, ran.1.result, ran.1.data⟩]⟩ } })) ∧
      ∀ q rest done, s.agent.execution = some ⟨[], done⟩ → s.agent.queue = q :: rest →
        let body :=
          (q.frame.drop 6).take 6 ++ [0x02, 0x5A, 0x7E, 0x00, 0x00, s.agent.addr.setWidth 8] ++ be16 s.agent.typeCode.toNat ++
            [1, 1, BitVec.ofNat 8 done.length] ++ done.flatMap entryBytes
        let padded := body ++ List.replicate (60 - body.length) 0
        let response := padded ++ fcsBytes padded
        let t : State :=
          { s with
            agent := { s.agent with queue := rest, execution := none, responsesSent := bump s.agent.responsesSent } }
        exec (.managementFrameExecution n) s =
          .next (match q.side with | .site => t.egress response | .radio => t.admitFrame 0 response)

/-! ### What every step keeps -/

/-- The device's stores keep their forms through every step, from every state that has them: the window store's positions rise below
4,096, the ring holds at most 512 records, the input queue at most four frames, the body of the response being made never passes 1,500
bytes, the occupancies count the slots of the frames held and in progress and never more than 16,384, the segments drawn for a fill being
carried out are numbered up to the sequence counter, and class 0 is never shed (R112, R113, R115, R120, R126, R129, R133, R161, R169,
R173). -/
def Obligations.StepKeepsStoreForms : Prop :=
  ∀ s t : State, s.storesOk → step s = .next t → t.storesOk

/-- Every carrier keeps its lock, its fill lead and its switches through every step: the ladder is locked exactly outside OFF, the
records, Nf and the fill that is due of a carrier, standing or being carried out, stand as the fill lead of two frames has them, and
whatever the next fill would use lies within the effective tx ceiling, a scheduled switch standing in RUN alone (R1, R3, R4, R29, R30,
R58, R91 to R94). A fill being carried out stays a data fill of a carrier in RUN or HOLD with a slot left (R121, R122, R124, R125). -/
def Obligations.StepKeepsLeadLockAndSwitches : Prop :=
  ∀ s t : State, s.lanesOk → step s = .next t → t.lanesOk

/-- Every setting stays in its range through every step (R19, R34, R40, R66, R86, R109, R111, R113, R134, R149, R168, R177), and so do the
levels, slope, prediction and decision level of every estimator (R43, R47 to R50). -/
def Obligations.StepKeepsSettingsAndLevels : Prop :=
  ∀ s t : State, step s = .next t → (s.settingsOk → t.settingsOk) ∧ (s.levelsOk → t.levelsOk)

/-- The state after reset has every form that the steps keep, and so has the state that any device reset leaves. -/
def Obligations.ResetHasEveryForm : Prop :=
  (State.reset.storesOk ∧ State.reset.lanesOk ∧ State.reset.settingsOk ∧ State.reset.levelsOk) ∧
    ∀ s : State, s.deviceReset.storesOk ∧ s.deviceReset.lanesOk ∧ s.deviceReset.settingsOk ∧ s.deviceReset.levelsOk

/-- No command stops the block: in every state whose carriers keep their fill lead, a step answers a next state. The part has no fault and
no refusal of its own; the model's only fault is the missing fill record, which R1, R3 and R4 rule out (notes/assumptions/9.md). -/
def Obligations.NoStepStops : Prop := ∀ s : State, s.lanesOk → s.stepsOn
end

