-- ==== Sys2Proof/Laws/Quad.lean ====
section
/-! SUPPORT. The laws of the four-fold container: reading after writing, and the sum after one change. -/

namespace Sys2Proof

variable {α : Type}

@[simp] theorem Quad.get_all (a : α) (i : Fin 4) : (Quad.all a).get i = a := by
  match i with
  | 0 => rfl
  | 1 => rfl
  | 2 => rfl
  | 3 => rfl

/-- Reading one after writing one. -/
theorem Quad.get_set (q : Quad α) (i j : Fin 4) (a : α) : (q.set i a).get j = if j = i then a else q.get j := by
  match i, j with
  | 0, 0 | 0, 1 | 0, 2 | 0, 3 => rfl
  | 1, 0 | 1, 1 | 1, 2 | 1, 3 => rfl
  | 2, 0 | 2, 1 | 2, 2 | 2, 3 => rfl
  | 3, 0 | 3, 1 | 3, 2 | 3, 3 => rfl

@[simp] theorem Quad.get_set_same (q : Quad α) (i : Fin 4) (a : α) : (q.set i a).get i = a := by
  simp [Quad.get_set]

theorem Quad.get_set_ne (q : Quad α) {i j : Fin 4} (a : α) (h : j ≠ i) : (q.set i a).get j = q.get j := by
  simp [Quad.get_set, h]

@[simp] theorem Quad.get_upd_same (q : Quad α) (i : Fin 4) (f : α → α) : (q.upd i f).get i = f (q.get i) := by
  simp [Quad.upd]

theorem Quad.get_upd_ne (q : Quad α) {i j : Fin 4} (f : α → α) (h : j ≠ i) : (q.upd i f).get j = q.get j := by
  simp [Quad.upd, Quad.get_set, h]

@[simp] theorem Quad.get_map {β : Type} (q : Quad α) (f : α → β) (i : Fin 4) : (q.map f).get i = f (q.get i) := by
  match i with
  | 0 => rfl
  | 1 => rfl
  | 2 => rfl
  | 3 => rfl

@[simp] theorem Quad.set_get (q : Quad α) (i : Fin 4) : q.set i (q.get i) = q := by
  match i with
  | 0 => rfl
  | 1 => rfl
  | 2 => rfl
  | 3 => rfl

@[simp] theorem Quad.set_set (q : Quad α) (i : Fin 4) (a b : α) : (q.set i a).set i b = q.set i b := by
  match i with
  | 0 => rfl
  | 1 => rfl
  | 2 => rfl
  | 3 => rfl

/-- Two quads with the same four members are equal. -/
theorem Quad.ext_get {p q : Quad α} (h : ∀ i, p.get i = q.get i) : p = q := by
  have h0 := h 0
  have h1 := h 1
  have h2 := h 2
  have h3 := h 3
  cases p
  cases q
  simp_all [Quad.get]

/-- The sum after one of the four is replaced. -/
theorem Quad.sum_set (q : Quad Nat) (i : Fin 4) (n : Nat) : (q.set i n).sum + q.get i = q.sum + n := by
  match i with
  | 0 => simp only [Quad.sum, Quad.set, Quad.get]; omega
  | 1 => simp only [Quad.sum, Quad.set, Quad.get]; omega
  | 2 => simp only [Quad.sum, Quad.set, Quad.get]; omega
  | 3 => simp only [Quad.sum, Quad.set, Quad.get]; omega

/-- One of the four is at most their sum. -/
theorem Quad.get_le_sum (q : Quad Nat) (i : Fin 4) : q.get i ≤ q.sum := by
  match i with
  | 0 => simp only [Quad.sum, Quad.get]; omega
  | 1 => simp only [Quad.sum, Quad.get]; omega
  | 2 => simp only [Quad.sum, Quad.get]; omega
  | 3 => simp only [Quad.sum, Quad.get]; omega

end Sys2Proof
end

