-- ==== Sys2Proof/Laws/State.lean ====
section
/-! SUPPORT. One lemma for each field of the state under each named update, so that no later proof unfolds a record update. -/

namespace Sys2Proof.Machine

/-! ### State.setCar -/

@[simp] theorem State.setCar_carriers (s : State) (c : CarrierId) (k : Carrier) : (s.setCar c k).carriers = s.carriers.set c k := rfl
@[simp] theorem State.setCar_site (s : State) (c : CarrierId) (k : Carrier) : (s.setCar c k).site = s.site := rfl
@[simp] theorem State.setCar_classifier (s : State) (c : CarrierId) (k : Carrier) : (s.setCar c k).classifier = s.classifier := rfl
@[simp] theorem State.setCar_admission (s : State) (c : CarrierId) (k : Carrier) : (s.setCar c k).admission = s.admission := rfl
@[simp] theorem State.setCar_queues (s : State) (c : CarrierId) (k : Carrier) : (s.setCar c k).queues = s.queues := rfl
@[simp] theorem State.setCar_reseq (s : State) (c : CarrierId) (k : Carrier) : (s.setCar c k).reseq = s.reseq := rfl
@[simp] theorem State.setCar_history (s : State) (c : CarrierId) (k : Carrier) : (s.setCar c k).history = s.history := rfl
@[simp] theorem State.setCar_agent (s : State) (c : CarrierId) (k : Carrier) : (s.setCar c k).agent = s.agent := rfl
@[simp] theorem State.setCar_alert (s : State) (c : CarrierId) (k : Carrier) : (s.setCar c k).alert = s.alert := rfl
@[simp] theorem State.setCar_pins (s : State) (c : CarrierId) (k : Carrier) : (s.setCar c k).pins = s.pins := rfl
@[simp] theorem State.setCar_filling (s : State) (c : CarrierId) (k : Carrier) : (s.setCar c k).filling = s.filling := rfl
@[simp] theorem State.setCar_drawPlan (s : State) (c : CarrierId) (k : Carrier) : (s.setCar c k).drawPlan = s.drawPlan := rfl
@[simp] theorem State.setCar_out (s : State) (c : CarrierId) (k : Carrier) : (s.setCar c k).out = s.out := rfl
@[simp] theorem State.setCar_pending (s : State) (c : CarrierId) (k : Carrier) : (s.setCar c k).pending = s.pending := rfl

/-! ### State.updCar -/

@[simp] theorem State.updCar_carriers (s : State) (c : CarrierId) (f : Carrier → Carrier) : (s.updCar c f).carriers = s.carriers.set c (f (s.car c)) := rfl
@[simp] theorem State.updCar_site (s : State) (c : CarrierId) (f : Carrier → Carrier) : (s.updCar c f).site = s.site := rfl
@[simp] theorem State.updCar_classifier (s : State) (c : CarrierId) (f : Carrier → Carrier) : (s.updCar c f).classifier = s.classifier := rfl
@[simp] theorem State.updCar_admission (s : State) (c : CarrierId) (f : Carrier → Carrier) : (s.updCar c f).admission = s.admission := rfl
@[simp] theorem State.updCar_queues (s : State) (c : CarrierId) (f : Carrier → Carrier) : (s.updCar c f).queues = s.queues := rfl
@[simp] theorem State.updCar_reseq (s : State) (c : CarrierId) (f : Carrier → Carrier) : (s.updCar c f).reseq = s.reseq := rfl
@[simp] theorem State.updCar_history (s : State) (c : CarrierId) (f : Carrier → Carrier) : (s.updCar c f).history = s.history := rfl
@[simp] theorem State.updCar_agent (s : State) (c : CarrierId) (f : Carrier → Carrier) : (s.updCar c f).agent = s.agent := rfl
@[simp] theorem State.updCar_alert (s : State) (c : CarrierId) (f : Carrier → Carrier) : (s.updCar c f).alert = s.alert := rfl
@[simp] theorem State.updCar_pins (s : State) (c : CarrierId) (f : Carrier → Carrier) : (s.updCar c f).pins = s.pins := rfl
@[simp] theorem State.updCar_filling (s : State) (c : CarrierId) (f : Carrier → Carrier) : (s.updCar c f).filling = s.filling := rfl
@[simp] theorem State.updCar_drawPlan (s : State) (c : CarrierId) (f : Carrier → Carrier) : (s.updCar c f).drawPlan = s.drawPlan := rfl
@[simp] theorem State.updCar_out (s : State) (c : CarrierId) (f : Carrier → Carrier) : (s.updCar c f).out = s.out := rfl
@[simp] theorem State.updCar_pending (s : State) (c : CarrierId) (f : Carrier → Carrier) : (s.updCar c f).pending = s.pending := rfl

/-! ### State.signal -/

@[simp] theorem State.signal_carriers (s : State) (l : Latch) : (s.signal l).carriers = s.carriers := rfl
@[simp] theorem State.signal_site (s : State) (l : Latch) : (s.signal l).site = s.site := rfl
@[simp] theorem State.signal_classifier (s : State) (l : Latch) : (s.signal l).classifier = s.classifier := rfl
@[simp] theorem State.signal_admission (s : State) (l : Latch) : (s.signal l).admission = s.admission := rfl
@[simp] theorem State.signal_queues (s : State) (l : Latch) : (s.signal l).queues = s.queues := rfl
@[simp] theorem State.signal_reseq (s : State) (l : Latch) : (s.signal l).reseq = s.reseq := rfl
@[simp] theorem State.signal_history (s : State) (l : Latch) : (s.signal l).history = s.history := rfl
@[simp] theorem State.signal_agent (s : State) (l : Latch) : (s.signal l).agent = s.agent := rfl
@[simp] theorem State.signal_alert (s : State) (l : Latch) : (s.signal l).alert = s.alert.raise l := rfl
@[simp] theorem State.signal_pins (s : State) (l : Latch) : (s.signal l).pins = s.pins := rfl
@[simp] theorem State.signal_filling (s : State) (l : Latch) : (s.signal l).filling = s.filling := rfl
@[simp] theorem State.signal_drawPlan (s : State) (l : Latch) : (s.signal l).drawPlan = s.drawPlan := rfl
@[simp] theorem State.signal_out (s : State) (l : Latch) : (s.signal l).out = s.out := rfl
@[simp] theorem State.signal_pending (s : State) (l : Latch) : (s.signal l).pending = s.pending := rfl

/-! ### State.onReseq -/

@[simp] theorem State.onReseq_carriers (s : State) (f : Reseq → Reseq) : (s.onReseq f).carriers = s.carriers := rfl
@[simp] theorem State.onReseq_site (s : State) (f : Reseq → Reseq) : (s.onReseq f).site = s.site := rfl
@[simp] theorem State.onReseq_classifier (s : State) (f : Reseq → Reseq) : (s.onReseq f).classifier = s.classifier := rfl
@[simp] theorem State.onReseq_admission (s : State) (f : Reseq → Reseq) : (s.onReseq f).admission = s.admission := rfl
@[simp] theorem State.onReseq_queues (s : State) (f : Reseq → Reseq) : (s.onReseq f).queues = s.queues := rfl
@[simp] theorem State.onReseq_reseq (s : State) (f : Reseq → Reseq) : (s.onReseq f).reseq = f s.reseq := rfl
@[simp] theorem State.onReseq_history (s : State) (f : Reseq → Reseq) : (s.onReseq f).history = s.history := rfl
@[simp] theorem State.onReseq_agent (s : State) (f : Reseq → Reseq) : (s.onReseq f).agent = s.agent := rfl
@[simp] theorem State.onReseq_alert (s : State) (f : Reseq → Reseq) : (s.onReseq f).alert = s.alert := rfl
@[simp] theorem State.onReseq_pins (s : State) (f : Reseq → Reseq) : (s.onReseq f).pins = s.pins := rfl
@[simp] theorem State.onReseq_filling (s : State) (f : Reseq → Reseq) : (s.onReseq f).filling = s.filling := rfl
@[simp] theorem State.onReseq_drawPlan (s : State) (f : Reseq → Reseq) : (s.onReseq f).drawPlan = s.drawPlan := rfl
@[simp] theorem State.onReseq_out (s : State) (f : Reseq → Reseq) : (s.onReseq f).out = s.out := rfl
@[simp] theorem State.onReseq_pending (s : State) (f : Reseq → Reseq) : (s.onReseq f).pending = s.pending := rfl

/-! ### State.dropItem -/

@[simp] theorem State.dropItem_site (s : State) (c : CarrierId) : (s.dropItem c).site = s.site := rfl
@[simp] theorem State.dropItem_classifier (s : State) (c : CarrierId) : (s.dropItem c).classifier = s.classifier := rfl
@[simp] theorem State.dropItem_admission (s : State) (c : CarrierId) : (s.dropItem c).admission = s.admission := rfl
@[simp] theorem State.dropItem_queues (s : State) (c : CarrierId) : (s.dropItem c).queues = s.queues := rfl
@[simp] theorem State.dropItem_reseq (s : State) (c : CarrierId) : (s.dropItem c).reseq = s.reseq := rfl
@[simp] theorem State.dropItem_history (s : State) (c : CarrierId) : (s.dropItem c).history = s.history := rfl
@[simp] theorem State.dropItem_agent (s : State) (c : CarrierId) : (s.dropItem c).agent = s.agent := rfl
@[simp] theorem State.dropItem_alert (s : State) (c : CarrierId) : (s.dropItem c).alert = s.alert := rfl
@[simp] theorem State.dropItem_pins (s : State) (c : CarrierId) : (s.dropItem c).pins = s.pins := rfl
@[simp] theorem State.dropItem_filling (s : State) (c : CarrierId) : (s.dropItem c).filling = s.filling := rfl
@[simp] theorem State.dropItem_drawPlan (s : State) (c : CarrierId) : (s.dropItem c).drawPlan = s.drawPlan := rfl
@[simp] theorem State.dropItem_out (s : State) (c : CarrierId) : (s.dropItem c).out = s.out := rfl
@[simp] theorem State.dropItem_pending (s : State) (c : CarrierId) : (s.dropItem c).pending = s.pending := rfl

/-! ### State.egress -/

@[simp] theorem State.egress_carriers (s : State) (f : Frame) : (s.egress f).carriers = s.carriers := rfl
@[simp] theorem State.egress_classifier (s : State) (f : Frame) : (s.egress f).classifier = s.classifier := rfl
@[simp] theorem State.egress_admission (s : State) (f : Frame) : (s.egress f).admission = s.admission := rfl
@[simp] theorem State.egress_queues (s : State) (f : Frame) : (s.egress f).queues = s.queues := rfl
@[simp] theorem State.egress_reseq (s : State) (f : Frame) : (s.egress f).reseq = s.reseq := rfl
@[simp] theorem State.egress_history (s : State) (f : Frame) : (s.egress f).history = s.history := rfl
@[simp] theorem State.egress_agent (s : State) (f : Frame) : (s.egress f).agent = s.agent := rfl
@[simp] theorem State.egress_alert (s : State) (f : Frame) : (s.egress f).alert = s.alert := rfl
@[simp] theorem State.egress_pins (s : State) (f : Frame) : (s.egress f).pins = s.pins := rfl
@[simp] theorem State.egress_filling (s : State) (f : Frame) : (s.egress f).filling = s.filling := rfl
@[simp] theorem State.egress_drawPlan (s : State) (f : Frame) : (s.egress f).drawPlan = s.drawPlan := rfl
@[simp] theorem State.egress_pending (s : State) (f : Frame) : (s.egress f).pending = s.pending := rfl

/-! ### State.captureEnds -/

@[simp] theorem State.captureEnds_carriers (s : State) (e : EndCause) : (s.captureEnds e).carriers = s.carriers := rfl
@[simp] theorem State.captureEnds_site (s : State) (e : EndCause) : (s.captureEnds e).site = s.site := rfl
@[simp] theorem State.captureEnds_classifier (s : State) (e : EndCause) : (s.captureEnds e).classifier = s.classifier := rfl
@[simp] theorem State.captureEnds_admission (s : State) (e : EndCause) : (s.captureEnds e).admission = s.admission := rfl
@[simp] theorem State.captureEnds_queues (s : State) (e : EndCause) : (s.captureEnds e).queues = s.queues := rfl
@[simp] theorem State.captureEnds_reseq (s : State) (e : EndCause) : (s.captureEnds e).reseq = s.reseq := rfl
@[simp] theorem State.captureEnds_agent (s : State) (e : EndCause) : (s.captureEnds e).agent = s.agent := rfl
@[simp] theorem State.captureEnds_alert (s : State) (e : EndCause) : (s.captureEnds e).alert = s.alert.raise .captureDone := rfl
@[simp] theorem State.captureEnds_pins (s : State) (e : EndCause) : (s.captureEnds e).pins = s.pins := rfl
@[simp] theorem State.captureEnds_filling (s : State) (e : EndCause) : (s.captureEnds e).filling = s.filling := rfl
@[simp] theorem State.captureEnds_drawPlan (s : State) (e : EndCause) : (s.captureEnds e).drawPlan = s.drawPlan := rfl
@[simp] theorem State.captureEnds_out (s : State) (e : EndCause) : (s.captureEnds e).out = s.out := rfl
@[simp] theorem State.captureEnds_pending (s : State) (e : EndCause) : (s.captureEnds e).pending = s.pending := rfl

/-! ### State.toModem -/

@[simp] theorem State.toModem_carriers (s : State) (c : CarrierId) (m : ModemFrame) : (s.toModem c m).carriers = s.carriers := rfl
@[simp] theorem State.toModem_site (s : State) (c : CarrierId) (m : ModemFrame) : (s.toModem c m).site = s.site := rfl
@[simp] theorem State.toModem_classifier (s : State) (c : CarrierId) (m : ModemFrame) : (s.toModem c m).classifier = s.classifier := rfl
@[simp] theorem State.toModem_admission (s : State) (c : CarrierId) (m : ModemFrame) : (s.toModem c m).admission = s.admission := rfl
@[simp] theorem State.toModem_queues (s : State) (c : CarrierId) (m : ModemFrame) : (s.toModem c m).queues = s.queues := rfl
@[simp] theorem State.toModem_reseq (s : State) (c : CarrierId) (m : ModemFrame) : (s.toModem c m).reseq = s.reseq := rfl
@[simp] theorem State.toModem_history (s : State) (c : CarrierId) (m : ModemFrame) : (s.toModem c m).history = s.history := rfl
@[simp] theorem State.toModem_agent (s : State) (c : CarrierId) (m : ModemFrame) : (s.toModem c m).agent = s.agent := rfl
@[simp] theorem State.toModem_alert (s : State) (c : CarrierId) (m : ModemFrame) : (s.toModem c m).alert = s.alert := rfl
@[simp] theorem State.toModem_pins (s : State) (c : CarrierId) (m : ModemFrame) : (s.toModem c m).pins = s.pins := rfl
@[simp] theorem State.toModem_filling (s : State) (c : CarrierId) (m : ModemFrame) : (s.toModem c m).filling = s.filling := rfl
@[simp] theorem State.toModem_drawPlan (s : State) (c : CarrierId) (m : ModemFrame) : (s.toModem c m).drawPlan = s.drawPlan := rfl
@[simp] theorem State.toModem_pending (s : State) (c : CarrierId) (m : ModemFrame) : (s.toModem c m).pending = s.pending := rfl

/-! ### State.returned -/

@[simp] theorem State.returned_carriers (s : State) (r : Reply) : (s.returned r).carriers = s.carriers := rfl
@[simp] theorem State.returned_site (s : State) (r : Reply) : (s.returned r).site = s.site := rfl
@[simp] theorem State.returned_classifier (s : State) (r : Reply) : (s.returned r).classifier = s.classifier := rfl
@[simp] theorem State.returned_admission (s : State) (r : Reply) : (s.returned r).admission = s.admission := rfl
@[simp] theorem State.returned_queues (s : State) (r : Reply) : (s.returned r).queues = s.queues := rfl
@[simp] theorem State.returned_reseq (s : State) (r : Reply) : (s.returned r).reseq = s.reseq := rfl
@[simp] theorem State.returned_history (s : State) (r : Reply) : (s.returned r).history = s.history := rfl
@[simp] theorem State.returned_alert (s : State) (r : Reply) : (s.returned r).alert = s.alert := rfl
@[simp] theorem State.returned_pins (s : State) (r : Reply) : (s.returned r).pins = s.pins := rfl
@[simp] theorem State.returned_filling (s : State) (r : Reply) : (s.returned r).filling = s.filling := rfl
@[simp] theorem State.returned_drawPlan (s : State) (r : Reply) : (s.returned r).drawPlan = s.drawPlan := rfl
@[simp] theorem State.returned_out (s : State) (r : Reply) : (s.returned r).out = s.out := rfl
@[simp] theorem State.returned_pending (s : State) (r : Reply) : (s.returned r).pending = s.pending := rfl

/-! ### State.noteEntry -/

@[simp] theorem State.noteEntry_carriers (s : State) (x : Execution) (e : ReplyEntry) : (s.noteEntry x e).carriers = s.carriers := rfl
@[simp] theorem State.noteEntry_site (s : State) (x : Execution) (e : ReplyEntry) : (s.noteEntry x e).site = s.site := rfl
@[simp] theorem State.noteEntry_classifier (s : State) (x : Execution) (e : ReplyEntry) : (s.noteEntry x e).classifier = s.classifier := rfl
@[simp] theorem State.noteEntry_admission (s : State) (x : Execution) (e : ReplyEntry) : (s.noteEntry x e).admission = s.admission := rfl
@[simp] theorem State.noteEntry_queues (s : State) (x : Execution) (e : ReplyEntry) : (s.noteEntry x e).queues = s.queues := rfl
@[simp] theorem State.noteEntry_reseq (s : State) (x : Execution) (e : ReplyEntry) : (s.noteEntry x e).reseq = s.reseq := rfl
@[simp] theorem State.noteEntry_history (s : State) (x : Execution) (e : ReplyEntry) : (s.noteEntry x e).history = s.history := rfl
@[simp] theorem State.noteEntry_alert (s : State) (x : Execution) (e : ReplyEntry) : (s.noteEntry x e).alert = s.alert := rfl
@[simp] theorem State.noteEntry_pins (s : State) (x : Execution) (e : ReplyEntry) : (s.noteEntry x e).pins = s.pins := rfl
@[simp] theorem State.noteEntry_filling (s : State) (x : Execution) (e : ReplyEntry) : (s.noteEntry x e).filling = s.filling := rfl
@[simp] theorem State.noteEntry_drawPlan (s : State) (x : Execution) (e : ReplyEntry) : (s.noteEntry x e).drawPlan = s.drawPlan := rfl
@[simp] theorem State.noteEntry_out (s : State) (x : Execution) (e : ReplyEntry) : (s.noteEntry x e).out = s.out := rfl
@[simp] theorem State.noteEntry_pending (s : State) (x : Execution) (e : ReplyEntry) : (s.noteEntry x e).pending = s.pending := rfl

/-! ### State.popFrame -/

@[simp] theorem State.popFrame_carriers (s : State) : (s.popFrame).carriers = s.carriers := rfl
@[simp] theorem State.popFrame_site (s : State) : (s.popFrame).site = s.site := rfl
@[simp] theorem State.popFrame_classifier (s : State) : (s.popFrame).classifier = s.classifier := rfl
@[simp] theorem State.popFrame_admission (s : State) : (s.popFrame).admission = s.admission := rfl
@[simp] theorem State.popFrame_queues (s : State) : (s.popFrame).queues = s.queues := rfl
@[simp] theorem State.popFrame_reseq (s : State) : (s.popFrame).reseq = s.reseq := rfl
@[simp] theorem State.popFrame_history (s : State) : (s.popFrame).history = s.history := rfl
@[simp] theorem State.popFrame_alert (s : State) : (s.popFrame).alert = s.alert := rfl
@[simp] theorem State.popFrame_pins (s : State) : (s.popFrame).pins = s.pins := rfl
@[simp] theorem State.popFrame_filling (s : State) : (s.popFrame).filling = s.filling := rfl
@[simp] theorem State.popFrame_drawPlan (s : State) : (s.popFrame).drawPlan = s.drawPlan := rfl
@[simp] theorem State.popFrame_out (s : State) : (s.popFrame).out = s.out := rfl
@[simp] theorem State.popFrame_pending (s : State) : (s.popFrame).pending = s.pending := rfl

/-! ### State.withPending -/

@[simp] theorem State.withPending_carriers (s : State) (l : List Instr) : (s.withPending l).carriers = s.carriers := rfl
@[simp] theorem State.withPending_site (s : State) (l : List Instr) : (s.withPending l).site = s.site := rfl
@[simp] theorem State.withPending_classifier (s : State) (l : List Instr) : (s.withPending l).classifier = s.classifier := rfl
@[simp] theorem State.withPending_admission (s : State) (l : List Instr) : (s.withPending l).admission = s.admission := rfl
@[simp] theorem State.withPending_queues (s : State) (l : List Instr) : (s.withPending l).queues = s.queues := rfl
@[simp] theorem State.withPending_reseq (s : State) (l : List Instr) : (s.withPending l).reseq = s.reseq := rfl
@[simp] theorem State.withPending_history (s : State) (l : List Instr) : (s.withPending l).history = s.history := rfl
@[simp] theorem State.withPending_agent (s : State) (l : List Instr) : (s.withPending l).agent = s.agent := rfl
@[simp] theorem State.withPending_alert (s : State) (l : List Instr) : (s.withPending l).alert = s.alert := rfl
@[simp] theorem State.withPending_pins (s : State) (l : List Instr) : (s.withPending l).pins = s.pins := rfl
@[simp] theorem State.withPending_filling (s : State) (l : List Instr) : (s.withPending l).filling = s.filling := rfl
@[simp] theorem State.withPending_drawPlan (s : State) (l : List Instr) : (s.withPending l).drawPlan = s.drawPlan := rfl
@[simp] theorem State.withPending_out (s : State) (l : List Instr) : (s.withPending l).out = s.out := rfl
@[simp] theorem State.withPending_pending (s : State) (l : List Instr) : (s.withPending l).pending = l := rfl

/-! ### State.clearStatus -/

@[simp] theorem State.clearStatus_carriers (s : State) : (s.clearStatus).carriers = s.carriers.map Carrier.clearCounters := rfl
@[simp] theorem State.clearStatus_site (s : State) : (s.clearStatus).site = SitePort.reset := rfl
@[simp] theorem State.clearStatus_reseq (s : State) : (s.clearStatus).reseq = s.reseq.clearCounters := rfl
@[simp] theorem State.clearStatus_history (s : State) : (s.clearStatus).history = s.history := rfl
@[simp] theorem State.clearStatus_agent (s : State) : (s.clearStatus).agent = s.agent.clearCounters := rfl
@[simp] theorem State.clearStatus_pins (s : State) : (s.clearStatus).pins = s.pins := rfl
@[simp] theorem State.clearStatus_filling (s : State) : (s.clearStatus).filling = s.filling := rfl
@[simp] theorem State.clearStatus_drawPlan (s : State) : (s.clearStatus).drawPlan = s.drawPlan := rfl
@[simp] theorem State.clearStatus_out (s : State) : (s.clearStatus).out = s.out := rfl
@[simp] theorem State.clearStatus_pending (s : State) : (s.clearStatus).pending = s.pending := rfl

/-! ### State.trafficReset -/

@[simp] theorem State.trafficReset_carriers (s : State) : (s.trafficReset).carriers = s.carriers := rfl
@[simp] theorem State.trafficReset_site (s : State) : (s.trafficReset).site = s.site := rfl
@[simp] theorem State.trafficReset_classifier (s : State) : (s.trafficReset).classifier = s.classifier.clearCounters := rfl
@[simp] theorem State.trafficReset_queues (s : State) : (s.trafficReset).queues = s.queues.trafficReset := rfl
@[simp] theorem State.trafficReset_reseq (s : State) : (s.trafficReset).reseq = s.reseq.trafficReset := rfl
@[simp] theorem State.trafficReset_history (s : State) : (s.trafficReset).history = s.history := rfl
@[simp] theorem State.trafficReset_agent (s : State) : (s.trafficReset).agent = s.agent := rfl
@[simp] theorem State.trafficReset_alert (s : State) : (s.trafficReset).alert = s.alert := rfl
@[simp] theorem State.trafficReset_pins (s : State) : (s.trafficReset).pins = s.pins := rfl
@[simp] theorem State.trafficReset_filling (s : State) : (s.trafficReset).filling = s.filling := rfl
@[simp] theorem State.trafficReset_drawPlan (s : State) : (s.trafficReset).drawPlan = s.drawPlan := rfl
@[simp] theorem State.trafficReset_out (s : State) : (s.trafficReset).out = s.out := rfl
@[simp] theorem State.trafficReset_pending (s : State) : (s.trafficReset).pending = s.pending := rfl

/-! ### State.signalIf -/

@[simp] theorem State.signalIf_carriers (s : State) (b : Bool) (l : Latch) : (s.signalIf b l).carriers = s.carriers := by cases b <;> rfl
@[simp] theorem State.signalIf_site (s : State) (b : Bool) (l : Latch) : (s.signalIf b l).site = s.site := by cases b <;> rfl
@[simp] theorem State.signalIf_classifier (s : State) (b : Bool) (l : Latch) : (s.signalIf b l).classifier = s.classifier := by cases b <;> rfl
@[simp] theorem State.signalIf_admission (s : State) (b : Bool) (l : Latch) : (s.signalIf b l).admission = s.admission := by cases b <;> rfl
@[simp] theorem State.signalIf_queues (s : State) (b : Bool) (l : Latch) : (s.signalIf b l).queues = s.queues := by cases b <;> rfl
@[simp] theorem State.signalIf_reseq (s : State) (b : Bool) (l : Latch) : (s.signalIf b l).reseq = s.reseq := by cases b <;> rfl
@[simp] theorem State.signalIf_history (s : State) (b : Bool) (l : Latch) : (s.signalIf b l).history = s.history := by cases b <;> rfl
@[simp] theorem State.signalIf_agent (s : State) (b : Bool) (l : Latch) : (s.signalIf b l).agent = s.agent := by cases b <;> rfl
@[simp] theorem State.signalIf_pins (s : State) (b : Bool) (l : Latch) : (s.signalIf b l).pins = s.pins := by cases b <;> rfl
@[simp] theorem State.signalIf_filling (s : State) (b : Bool) (l : Latch) : (s.signalIf b l).filling = s.filling := by cases b <;> rfl
@[simp] theorem State.signalIf_drawPlan (s : State) (b : Bool) (l : Latch) : (s.signalIf b l).drawPlan = s.drawPlan := by cases b <;> rfl
@[simp] theorem State.signalIf_out (s : State) (b : Bool) (l : Latch) : (s.signalIf b l).out = s.out := by cases b <;> rfl
@[simp] theorem State.signalIf_pending (s : State) (b : Bool) (l : Latch) : (s.signalIf b l).pending = s.pending := by cases b <;> rfl

theorem State.signalIf_alert (s : State) (b : Bool) (l : Latch) :
    (s.signalIf b l).alert = if b then s.alert.raise l else s.alert := by
  cases b <;> rfl

/-! ### Reading one carrier -/

@[simp] theorem State.car_setCar_same (s : State) (c : CarrierId) (k : Carrier) : (s.setCar c k).car c = k := by
  simp [State.car]

theorem State.car_setCar (s : State) (c d : CarrierId) (k : Carrier) :
    (s.setCar c k).car d = if d = c then k else s.car d := by
  simp [State.car, Quad.get_set]

@[simp] theorem State.car_updCar_same (s : State) (c : CarrierId) (f : Carrier → Carrier) :
    (s.updCar c f).car c = f (s.car c) := by
  simp [State.car]

theorem State.car_updCar (s : State) (c d : CarrierId) (f : Carrier → Carrier) :
    (s.updCar c f).car d = if d = c then f (s.car c) else s.car d := by
  simp [State.updCar, State.car_setCar]

/-- Equal carriers give equal readings of each carrier. -/
theorem State.car_congr {s t : State} (h : s.carriers = t.carriers) (c : CarrierId) : s.car c = t.car c := by
  simp [State.car, h]

/-! ### Latches -/

@[simp] theorem Alert.raise_mask (a : Alert) (l : Latch) : (a.raise l).mask = a.mask := rfl

@[simp] theorem Alert.clear_mask (a : Alert) (m : BitVec 32) : (a.clear m).mask = a.mask := rfl

/-- Every latch has its own bit among the 21. -/
theorem Latch.bit_lt (l : Latch) : l.bit < 21 := by
  cases l <;> simp only [Latch.bit] <;> omega

theorem Latch.bit_injective {l m : Latch} (h : l.bit = m.bit) : l = m := by
  cases l <;> cases m <;> simp only [Latch.bit] at h <;> first | rfl | (exfalso; omega) | (congr 1; apply Fin.ext; omega)

/-- A raised latch is set. -/
@[simp] theorem Alert.isSet_raise_same (a : Alert) (l : Latch) : (a.raise l).isSet l = true := by
  have h := l.bit_lt
  simp [Alert.isSet, Alert.raise, h]

/-- Raising one latch leaves every other as it stands. -/
theorem Alert.isSet_raise (a : Alert) (l m : Latch) : (a.raise l).isSet m = (a.isSet m || decide (m = l)) := by
  have h := l.bit_lt
  by_cases e : m = l
  · subst e
    simp
  · have hne : l.bit ≠ m.bit := fun x => e (Latch.bit_injective x.symm)
    simp [Alert.isSet, Alert.raise, e, hne]

end Sys2Proof.Machine
end

