-- ==== Sys2Proof/Laws/Resequencer.lean ====
section
/-! SUPPORT. What the Resequencer's events can touch, and the form of its window store (R133). -/

namespace Sys2Proof.Machine

/-! ### What the Resequencer's events leave alone -/

/-- Two states that agree on every block but the Resequencer and those it hands frames and latches to. -/
structure State.SameBesidesReseq (s t : State) : Prop where
  carriers : t.carriers = s.carriers
  classifier : t.classifier = s.classifier
  admission : t.admission = s.admission
  queues : t.queues = s.queues
  history : t.history = s.history
  pins : t.pins = s.pins
  pending : t.pending = s.pending
  modem : t.out.modem = s.out.modem
  mask : t.alert.mask = s.alert.mask
  latches : ∀ l, s.alert.isSet l = true → t.alert.isSet l = true

theorem State.SameBesidesReseq.refl (s : State) : s.SameBesidesReseq s :=
  ⟨rfl, rfl, rfl, rfl, rfl, rfl, rfl, rfl, rfl, fun _ h => h⟩

theorem State.SameBesidesReseq.trans {s t u : State} (h : s.SameBesidesReseq t) (h' : t.SameBesidesReseq u) :
    s.SameBesidesReseq u :=
  ⟨h'.carriers.trans h.carriers, h'.classifier.trans h.classifier, h'.admission.trans h.admission, h'.queues.trans h.queues,
    h'.history.trans h.history, h'.pins.trans h.pins, h'.pending.trans h.pending, h'.modem.trans h.modem,
    h'.mask.trans h.mask, fun l x => h'.latches l (h.latches l x)⟩

theorem State.same_onReseq (s : State) (f : Reseq → Reseq) : s.SameBesidesReseq (s.onReseq f) :=
  ⟨rfl, rfl, rfl, rfl, rfl, rfl, rfl, rfl, rfl, fun _ h => h⟩

theorem State.same_signal (s : State) (l : Latch) : s.SameBesidesReseq (s.signal l) :=
  ⟨rfl, rfl, rfl, rfl, rfl, rfl, rfl, rfl, rfl, fun m h => by simp [Alert.isSet_raise, h]⟩

theorem State.same_egress (s : State) (f : Frame) : s.SameBesidesReseq (s.egress f) :=
  ⟨rfl, rfl, rfl, rfl, rfl, rfl, rfl, rfl, rfl, fun _ h => h⟩

theorem State.same_enqueue (s : State) (sd : Side) (f : Frame) : s.SameBesidesReseq (s.enqueue sd f) := by
  simp only [State.enqueue]
  split
  · exact ⟨rfl, rfl, rfl, rfl, rfl, rfl, rfl, rfl, rfl, fun m h => by simp [Alert.isSet_raise, h]⟩
  · exact ⟨rfl, rfl, rfl, rfl, rfl, rfl, rfl, rfl, rfl, fun _ h => h⟩

theorem State.same_frameComplete (s : State) (f : Frame) : s.SameBesidesReseq (s.frameComplete f) := by
  simp only [State.frameComplete]
  split
  · exact (s.same_onReseq _).trans (State.same_enqueue _ _ _)
  · exact (s.same_onReseq _).trans (State.same_egress _ _)

theorem State.same_beginFrame (s : State) (g : Segment) : s.SameBesidesReseq (s.beginFrame g) := by
  simp only [State.beginFrame]
  split
  · exact (s.same_onReseq _).trans (State.same_frameComplete _ _)
  · exact s.same_onReseq _

theorem State.same_reassemble (s : State) (g : Segment) : s.SameBesidesReseq (s.reassemble g) := by
  simp only [State.reassemble]
  split
  · split
    · exact (s.same_onReseq _).trans (State.same_beginFrame _ _)
    · split
      · split
        · exact (s.same_onReseq _).trans (State.same_frameComplete _ _)
        · exact s.same_onReseq _
      · exact s.same_onReseq _
  · split
    · exact s.same_beginFrame g
    · exact s.same_onReseq _

theorem State.same_losePosition (s : State) : s.SameBesidesReseq s.losePosition := by
  simp only [State.losePosition]
  split
  · exact ((s.same_onReseq _).trans (State.same_onReseq _ _)).trans (State.same_signal _ _)
  · exact s.same_onReseq _

theorem State.same_handOver (s : State) (x : Slot) : s.SameBesidesReseq (s.handOver x) := by
  cases x with
  | segment g => exact s.same_reassemble g
  | lost => exact s.same_losePosition

theorem State.same_deliverUpTo (n : Nat) (s : State) : s.SameBesidesReseq (s.deliverUpTo n) := by
  induction n generalizing s with
  | zero => exact .refl s
  | succ n ih =>
    simp only [State.deliverUpTo]
    split
    · exact ((s.same_onReseq _).trans (State.same_handOver _ _)).trans (ih _)
    · exact .refl s

theorem State.same_deliverFrom (s : State) (b : SeqNo) : s.SameBesidesReseq (s.deliverFrom b) :=
  (State.same_deliverUpTo _ s).trans (State.same_onReseq _ _)

theorem State.same_segmentUnsynced (s : State) (g : Segment) : s.SameBesidesReseq (s.segmentUnsynced g) := by
  simp only [State.segmentUnsynced]
  split
  · exact (s.same_onReseq _).trans (State.same_deliverFrom _ _)
  · exact s.same_onReseq _

theorem State.same_takeSegment (s : State) (g : Segment) : s.SameBesidesReseq (s.takeSegment g) := by
  simp only [State.takeSegment, State.segmentSynced, State.segmentLate]
  split
  · split
    · split
      · exact (s.same_onReseq _).trans (State.same_segmentUnsynced (s.onReseq fun _ => _) g)
      · exact s.same_onReseq fun _ => _
    · split
      · split
        · exact s.same_onReseq _
        · exact (s.same_onReseq _).trans (State.same_deliverFrom _ _)
      · exact (s.same_onReseq _).trans (State.same_segmentUnsynced _ g)
  · exact s.same_segmentUnsynced g

theorem State.same_takeLoss (s : State) (q : SeqNo) : s.SameBesidesReseq (s.takeLoss q) := by
  simp only [State.takeLoss]
  split
  · exact (s.same_onReseq _).trans (State.same_deliverFrom _ _)
  · exact s.same_onReseq _

theorem State.same_takeItem (s : State) (i : Item) : s.SameBesidesReseq (s.takeItem i) := by
  cases i with
  | segment g => exact s.same_takeSegment g
  | loss q => exact s.same_takeLoss q

theorem State.same_tick (s : State) : s.SameBesidesReseq s.tick := by
  simp only [State.tick, State.gapExpires]
  split
  · split
    · exact (s.same_onReseq _).trans (State.same_deliverFrom _ _)
    · exact s.same_onReseq _
  · exact .refl s

/-! ### Taking the items that wait -/

/-- Of the carriers, taking the waiting items of one changes the items that wait there alone; beside that only the blocks that
the Resequencer's events touch can change. -/
theorem State.takeItems_same (n : Nat) (s : State) (c : CarrierId) :
    (∃ l, (s.takeItems c n).carriers = s.carriers.set c { s.car c with lane := { (s.car c).lane with handover := l } }) ∧
      ∃ u : State, s.SameBesidesReseq u ∧ s.takeItems c n = { u with carriers := (s.takeItems c n).carriers } := by
  induction n generalizing s with
  | zero => exact ⟨⟨(s.car c).lane.handover, (Quad.set_get s.carriers c).symm⟩, s, .refl s, rfl⟩
  | succ n ih =>
    simp only [State.takeItems]
    split
    · rename_i i rest _
      have h := State.same_takeItem (s.dropItem c) i
      have hc : ((s.dropItem c).takeItem i).carriers =
          s.carriers.set c { s.car c with lane := { (s.car c).lane with handover := (s.car c).lane.handover.tail } } := h.carriers
      obtain ⟨⟨l, h1⟩, u, h2, h3⟩ := ih ((s.dropItem c).takeItem i)
      refine ⟨⟨l, ?_⟩, { u with carriers := s.carriers }, ⟨rfl, h2.classifier.trans h.classifier, h2.admission.trans h.admission,
        h2.queues.trans h.queues, h2.history.trans h.history, h2.pins.trans h.pins, h2.pending.trans h.pending,
        h2.modem.trans h.modem, h2.mask.trans h.mask, fun l x => h2.latches l (h.latches l x)⟩, ?_⟩
      · rw [h1, hc]; simp [State.car, hc]
      · conv => lhs; rw [h3]
    · exact ⟨⟨(s.car c).lane.handover, (Quad.set_get s.carriers c).symm⟩, s, .refl s, rfl⟩

/-- Taking waiting items changes nothing of a carrier but the items that wait there. -/
theorem State.takeItems_car (n : Nat) (s : State) (c d : CarrierId) :
    ∃ l, (s.takeItems c n).car d = { s.car d with lane := { (s.car d).lane with handover := l } } := by
  obtain ⟨⟨l, h⟩, -⟩ := State.takeItems_same n s c
  by_cases hd : d = c
  · subst hd; exact ⟨l, by simp [State.car, h]⟩
  · exact ⟨(s.car d).lane.handover, by simp [State.car, h, Quad.get_set_ne _ _ hd]⟩

theorem State.takeItems_classifier (n : Nat) (s : State) (c : CarrierId) : (s.takeItems c n).classifier = s.classifier := by
  obtain ⟨-, u, h, e⟩ := State.takeItems_same n s c
  rw [e]; exact h.classifier
theorem State.takeItems_admission (n : Nat) (s : State) (c : CarrierId) : (s.takeItems c n).admission = s.admission := by
  obtain ⟨-, u, h, e⟩ := State.takeItems_same n s c
  rw [e]; exact h.admission
theorem State.takeItems_queues (n : Nat) (s : State) (c : CarrierId) : (s.takeItems c n).queues = s.queues := by
  obtain ⟨-, u, h, e⟩ := State.takeItems_same n s c
  rw [e]; exact h.queues
theorem State.takeItems_history (n : Nat) (s : State) (c : CarrierId) : (s.takeItems c n).history = s.history := by
  obtain ⟨-, u, h, e⟩ := State.takeItems_same n s c
  rw [e]; exact h.history
theorem State.takeItems_pins (n : Nat) (s : State) (c : CarrierId) : (s.takeItems c n).pins = s.pins := by
  obtain ⟨-, u, h, e⟩ := State.takeItems_same n s c
  rw [e]; exact h.pins
theorem State.takeItems_pending (n : Nat) (s : State) (c : CarrierId) : (s.takeItems c n).pending = s.pending := by
  obtain ⟨-, u, h, e⟩ := State.takeItems_same n s c
  rw [e]; exact h.pending

/-- A latch that is set stays set while waiting items are taken. -/
theorem State.takeItems_isSet (n : Nat) (s : State) (c : CarrierId) (l : Latch) (h : s.alert.isSet l = true) :
    (s.takeItems c n).alert.isSet l = true := by
  obtain ⟨-, u, h', e⟩ := State.takeItems_same n s c
  rw [e]; exact h'.latches l h

end Sys2Proof.Machine
end

