-- ==== Sys2Proof/Laws/Shedding.lean ====
section
/-! SUPPORT. What a contribution signal and a shed evaluation can do (R110, R112), said once. -/

namespace Sys2Proof.Machine

/-! ### A shed evaluation -/

@[simp] theorem Admission.evaluate_contributions (a : Admission) : a.evaluate.contributions = a.contributions := rfl
@[simp] theorem Admission.evaluate_shedTable (a : Admission) : a.evaluate.shedTable = a.shedTable := rfl
@[simp] theorem Admission.evaluate_limits (a : Admission) : a.evaluate.limits = a.limits := rfl
@[simp] theorem Admission.evaluate_shed_at0 (a : Admission) : a.evaluate.shed.at0 = a.shed.at0 := rfl
@[simp] theorem Admission.evaluate_counters_at0 (a : Admission) : a.evaluate.counters.at0 = a.counters.at0 := rfl

/-- Each of classes 1 to 3 is evaluated by its own threshold. -/
theorem Admission.evaluate_shed (a : Admission) (k : ClassId) (h : k ≠ 0) :
    a.evaluate.shed.get k = shedNext (a.shed.get k) a.aggregate (a.shedTable.get k) a.shedTable.at0 := by
  match k, h with
  | 1, _ => rfl
  | 2, _ => rfl
  | 3, _ => rfl

/-- A class that becomes shed counts an entry; no other counter moves. -/
theorem Admission.evaluate_counters (a : Admission) (k : ClassId) (h : k ≠ 0) :
    a.evaluate.counters.get k =
      if (!a.shed.get k && shedNext (a.shed.get k) a.aggregate (a.shedTable.get k) a.shedTable.at0) = true then
        { a.counters.get k with shedEntries := bump (a.counters.get k).shedEntries }
      else a.counters.get k := by
  match k, h with
  | 1, _ => rfl
  | 2, _ => rfl
  | 3, _ => rfl

@[simp] theorem State.shedEvaluate_admission (s : State) : s.shedEvaluate.admission = s.admission.evaluate := by
  simp [State.shedEvaluate]

@[simp] theorem State.shedEvaluate_carriers (s : State) : s.shedEvaluate.carriers = s.carriers := by simp [State.shedEvaluate]
@[simp] theorem State.shedEvaluate_site (s : State) : s.shedEvaluate.site = s.site := by simp [State.shedEvaluate]
@[simp] theorem State.shedEvaluate_classifier (s : State) : s.shedEvaluate.classifier = s.classifier := by
  simp [State.shedEvaluate]
@[simp] theorem State.shedEvaluate_queues (s : State) : s.shedEvaluate.queues = s.queues := by simp [State.shedEvaluate]
@[simp] theorem State.shedEvaluate_reseq (s : State) : s.shedEvaluate.reseq = s.reseq := by simp [State.shedEvaluate]
@[simp] theorem State.shedEvaluate_history (s : State) : s.shedEvaluate.history = s.history := by simp [State.shedEvaluate]
@[simp] theorem State.shedEvaluate_agent (s : State) : s.shedEvaluate.agent = s.agent := by simp [State.shedEvaluate]
@[simp] theorem State.shedEvaluate_pins (s : State) : s.shedEvaluate.pins = s.pins := by simp [State.shedEvaluate]
@[simp] theorem State.shedEvaluate_filling (s : State) : s.shedEvaluate.filling = s.filling := by simp [State.shedEvaluate]
@[simp] theorem State.shedEvaluate_drawPlan (s : State) : s.shedEvaluate.drawPlan = s.drawPlan := by simp [State.shedEvaluate]
@[simp] theorem State.shedEvaluate_out (s : State) : s.shedEvaluate.out = s.out := by simp [State.shedEvaluate]
@[simp] theorem State.shedEvaluate_pending (s : State) : s.shedEvaluate.pending = s.pending := by simp [State.shedEvaluate]

/-! ### A contribution signal -/

/-- A contribution signal changes Class Admission and the Alert Unit alone. -/
theorem State.signalContribution_frame (s : State) (c : CarrierId) :
    s.signalContribution c =
      { s with admission := (s.signalContribution c).admission, alert := (s.signalContribution c).alert } := by
  simp only [State.signalContribution, State.shedEvaluate, State.signalIf, State.signal]
  split
  · rfl
  · split
    · rfl
    · split <;> rfl

@[simp] theorem State.signalContribution_carriers (s : State) (c : CarrierId) : (s.signalContribution c).carriers = s.carriers := by
  rw [State.signalContribution_frame]
@[simp] theorem State.signalContribution_site (s : State) (c : CarrierId) : (s.signalContribution c).site = s.site := by
  rw [State.signalContribution_frame]
@[simp] theorem State.signalContribution_classifier (s : State) (c : CarrierId) :
    (s.signalContribution c).classifier = s.classifier := by
  rw [State.signalContribution_frame]
@[simp] theorem State.signalContribution_queues (s : State) (c : CarrierId) : (s.signalContribution c).queues = s.queues := by
  rw [State.signalContribution_frame]
@[simp] theorem State.signalContribution_reseq (s : State) (c : CarrierId) : (s.signalContribution c).reseq = s.reseq := by
  rw [State.signalContribution_frame]
@[simp] theorem State.signalContribution_history (s : State) (c : CarrierId) : (s.signalContribution c).history = s.history := by
  rw [State.signalContribution_frame]
@[simp] theorem State.signalContribution_agent (s : State) (c : CarrierId) : (s.signalContribution c).agent = s.agent := by
  rw [State.signalContribution_frame]
@[simp] theorem State.signalContribution_pins (s : State) (c : CarrierId) : (s.signalContribution c).pins = s.pins := by
  rw [State.signalContribution_frame]
@[simp] theorem State.signalContribution_filling (s : State) (c : CarrierId) : (s.signalContribution c).filling = s.filling := by
  rw [State.signalContribution_frame]
@[simp] theorem State.signalContribution_drawPlan (s : State) (c : CarrierId) : (s.signalContribution c).drawPlan = s.drawPlan := by
  rw [State.signalContribution_frame]
@[simp] theorem State.signalContribution_out (s : State) (c : CarrierId) : (s.signalContribution c).out = s.out := by
  rw [State.signalContribution_frame]
@[simp] theorem State.signalContribution_pending (s : State) (c : CarrierId) : (s.signalContribution c).pending = s.pending := by
  rw [State.signalContribution_frame]

/-- After its signal a carrier's contribution is the one of R37 and every other is as it was. -/
theorem State.signalContribution_contributions (s : State) (c : CarrierId) :
    (s.signalContribution c).admission.contributions = s.admission.contributions.set c (s.car c).contribution := by
  simp only [State.signalContribution]
  split
  · rename_i h
    rw [h, Quad.set_get]
  · split <;> simp

@[simp] theorem State.signalContribution_limits (s : State) (c : CarrierId) :
    (s.signalContribution c).admission.limits = s.admission.limits := by
  simp only [State.signalContribution]
  split
  · rfl
  · split <;> simp

@[simp] theorem State.signalContribution_shedTable (s : State) (c : CarrierId) :
    (s.signalContribution c).admission.shedTable = s.admission.shedTable := by
  simp only [State.signalContribution]
  split
  · rfl
  · split <;> simp

@[simp] theorem State.signalContribution_shed_at0 (s : State) (c : CarrierId) :
    (s.signalContribution c).admission.shed.at0 = s.admission.shed.at0 := by
  simp only [State.signalContribution]
  split
  · rfl
  · split <;> simp

/-- A latch that is set stays set through a contribution signal, and only the SHED latch can become set. -/
theorem State.signalContribution_isSet (s : State) (c : CarrierId) (l : Latch) (h : l ≠ .shed) :
    (s.signalContribution c).alert.isSet l = s.alert.isSet l := by
  simp only [State.signalContribution, State.shedEvaluate]
  split
  · rfl
  · split
    · rfl
    · simp only [State.signalIf_alert]
      split
      · simp [Alert.isSet_raise, h]
      · rfl

/-- A contribution signal reads the contribution, Class Admission and the latches alone. -/
theorem State.signalContribution_congr {s t : State} {c : CarrierId} (hk : (s.car c).contribution = (t.car c).contribution)
    (ha : s.admission = t.admission) (hl : s.alert = t.alert) :
    (s.signalContribution c).admission = (t.signalContribution c).admission ∧
      (s.signalContribution c).alert = (t.signalContribution c).alert := by
  simp only [State.signalContribution, State.shedEvaluate, hk, ha]
  split
  · exact ⟨ha, hl⟩
  · split
    · exact ⟨rfl, hl⟩
    · simp only [State.signalIf]
      split
      · exact ⟨rfl, congrArg (fun a => Alert.raise a .shed) hl⟩
      · exact ⟨rfl, hl⟩

/-- A carrier stored after its signal is the carrier stored before it, where both have the same contribution. -/
theorem State.setCar_signalContribution {s : State} {c : CarrierId} {k k' : Carrier} (h : k.contribution = k'.contribution) :
    ((s.setCar c k).signalContribution c).setCar c k' = (s.setCar c k').signalContribution c := by
  have hc : ((s.setCar c k).car c).contribution = ((s.setCar c k').car c).contribution := by simp [h]
  obtain ⟨h1, h2⟩ := State.signalContribution_congr (s := s.setCar c k) (t := s.setCar c k') hc rfl rfl
  rw [State.signalContribution_frame (s.setCar c k), State.signalContribution_frame (s.setCar c k'), h1, h2]
  simp only [State.setCar, Quad.set_set]

end Sys2Proof.Machine
end

