-- ==== Sys2Proof/Laws/Arrival.lean ====
section
/-! SUPPORT. What step 1 of an inbound arrival can change, and the whole arrival as one change of its carrier followed by the signals
and the record (R14). -/

namespace Sys2Proof.Machine

/-! ### A change of a carrier among signals and records -/

theorem State.setCar_signalIf (s : State) (c : CarrierId) (k : Carrier) (b : Bool) (l : Latch) :
    (s.setCar c k).signalIf b l = (s.signalIf b l).setCar c k := by
  cases b <;> rfl

theorem State.setCar_capture (s : State) (c d : CarrierId) (k : Carrier) (o : Observation) :
    (s.setCar c k).capture d o = (s.capture d o).setCar c k := by
  by_cases h1 : d = s.history.carrier
  · have h2 : d = (s.setCar c k).history.carrier := h1
    unfold State.capture
    rw [if_pos h1, if_pos h2]
    exact (apply_ite (fun t : State => t.setCar c k)
      ((decide ((s.history.write o).state = .post) && decide ((s.history.write o).post ≤ (s.history.write o).postRecords)) = true)
      ({ s with history := s.history.write o }.captureEnds .normal) { s with history := s.history.write o }).symm
  · have h2 : ¬ d = (s.setCar c k).history.carrier := h1
    unfold State.capture
    rw [if_neg h1, if_neg h2]

@[simp] theorem State.setCar_setCar (s : State) (c : CarrierId) (k k' : Carrier) : (s.setCar c k).setCar c k' = s.setCar c k' := by
  simp [State.setCar]

@[simp] theorem State.capture_carriers (s : State) (c : CarrierId) (o : Observation) : (s.capture c o).carriers = s.carriers := by
  simp only [State.capture]; split <;> (try split) <;> rfl
@[simp] theorem State.capture_site (s : State) (c : CarrierId) (o : Observation) : (s.capture c o).site = s.site := by
  simp only [State.capture]; split <;> (try split) <;> rfl
@[simp] theorem State.capture_classifier (s : State) (c : CarrierId) (o : Observation) : (s.capture c o).classifier = s.classifier := by
  simp only [State.capture]; split <;> (try split) <;> rfl
@[simp] theorem State.capture_admission (s : State) (c : CarrierId) (o : Observation) : (s.capture c o).admission = s.admission := by
  simp only [State.capture]; split <;> (try split) <;> rfl
@[simp] theorem State.capture_queues (s : State) (c : CarrierId) (o : Observation) : (s.capture c o).queues = s.queues := by
  simp only [State.capture]; split <;> (try split) <;> rfl
@[simp] theorem State.capture_reseq (s : State) (c : CarrierId) (o : Observation) : (s.capture c o).reseq = s.reseq := by
  simp only [State.capture]; split <;> (try split) <;> rfl
@[simp] theorem State.capture_agent (s : State) (c : CarrierId) (o : Observation) : (s.capture c o).agent = s.agent := by
  simp only [State.capture]; split <;> (try split) <;> rfl
@[simp] theorem State.capture_pins (s : State) (c : CarrierId) (o : Observation) : (s.capture c o).pins = s.pins := by
  simp only [State.capture]; split <;> (try split) <;> rfl
@[simp] theorem State.capture_out (s : State) (c : CarrierId) (o : Observation) : (s.capture c o).out = s.out := by
  simp only [State.capture]; split <;> (try split) <;> rfl
@[simp] theorem State.capture_pending (s : State) (c : CarrierId) (o : Observation) : (s.capture c o).pending = s.pending := by
  simp only [State.capture]; split <;> (try split) <;> rfl

/-- A record raises no latch but CAPTURE DONE, and clears none. -/
theorem State.capture_isSet (s : State) (c : CarrierId) (o : Observation) (l : Latch) (h : l ≠ .captureDone) :
    (s.capture c o).alert.isSet l = s.alert.isSet l := by
  simp only [State.capture]
  split
  · split
    · simp [Alert.isSet_raise, h]
    · rfl
  · rfl

/-- The record of an arrival while ARMED. -/
theorem History.write_armed {y : History} (h : y.state = .armed) (o : Observation) :
    y.write o =
      if triggers y.trigger (y.recordOf o) then
        { y with
          ring := ringAppend y.ring { y.recordOf o with trigger := true }
          lastFn := o.fn.or y.lastFn, state := .post, postRecords := 1 }
      else { y with ring := ringAppend y.ring (y.recordOf o), lastFn := o.fn.or y.lastFn } := by
  unfold History.write
  rw [h]
  cases o.fn <;> rfl

/-- The record of an arrival in POST. -/
theorem History.write_post {y : History} (h : y.state = .post) (o : Observation) :
    y.write o =
      { y with
        ring := ringAppend y.ring (y.recordOf o)
        lastFn := o.fn.or y.lastFn, postRecords := y.postRecords + 1 } := by
  unfold History.write
  rw [h]
  cases o.fn <;> rfl

/-- In IDLE and DONE nothing is recorded. -/
theorem History.write_closed {y : History} (h : y.state = .idle ∨ y.state = .done) (o : Observation) : y.write o = y := by
  unfold History.write
  rcases h with h | h <;> rw [h]

/-- A ring of at most 512 records stays one. -/
theorem ringAppend_length {l : List Record} (h : l.length ≤ 512) (r : Record) : (ringAppend l r).length ≤ 512 := by
  have hc : Config.ringSize = 512 := rfl
  simp only [ringAppend, hc]
  split <;> simp <;> omega

theorem History.write_ring {y : History} (h : y.ring.length ≤ 512) (o : Observation) : (y.write o).ring.length ≤ 512 := by
  cases hs : y.state
  · rw [History.write_closed (.inl hs)]; exact h
  · rw [History.write_armed hs]; split <;> exact ringAppend_length h _
  · rw [History.write_post hs]; exact ringAppend_length h _
  · rw [History.write_closed (.inr hs)]; exact h

/-! ### Step 1 -/

@[simp] theorem Carrier.hear_lane (k : Carrier) (good : Option RxHeader) : (k.hear good).lane = k.lane := by
  simp only [Carrier.hear, Carrier.hearAcquire, Carrier.hearFallback]
  repeat (first | rfl | split)
@[simp] theorem Carrier.hear_est (k : Carrier) (good : Option RxHeader) : (k.hear good).est = k.est := by
  simp only [Carrier.hear, Carrier.hearAcquire, Carrier.hearFallback]
  repeat (first | rfl | split)
@[simp] theorem Carrier.hear_ladder (k : Carrier) (good : Option RxHeader) : (k.hear good).ladder = k.ladder := by
  simp only [Carrier.hear, Carrier.hearAcquire, Carrier.hearFallback]
  repeat (first | rfl | split)
@[simp] theorem Carrier.hear_dist (k : Carrier) (good : Option RxHeader) : (k.hear good).dist = k.dist := by
  simp only [Carrier.hear, Carrier.hearAcquire, Carrier.hearFallback]
  repeat (first | rfl | split)
@[simp] theorem Carrier.hear_test (k : Carrier) (good : Option RxHeader) : (k.hear good).test = k.test := by
  simp only [Carrier.hear, Carrier.hearAcquire, Carrier.hearFallback]
  repeat (first | rfl | split)
@[simp] theorem Carrier.hear_outbound (k : Carrier) (good : Option RxHeader) : (k.hear good).sched.outbound = k.sched.outbound := by
  simp only [Carrier.hear, Carrier.hearAcquire, Carrier.hearFallback]
  repeat (first | rfl | split)

/-- The limits of the windows are settings, which step 1 keeps. -/
theorem Carrier.hear_limits (k : Carrier) (good : Option RxHeader) :
    (k.hear good).control.rxFloor = k.control.rxFloor ∧ (k.hear good).control.rxCeiling = k.control.rxCeiling ∧
      (k.hear good).control.txCeiling = k.control.txCeiling := by
  simp only [Carrier.hear, Carrier.hearAcquire, Carrier.hearFallback]
  repeat (first | exact ⟨rfl, rfl, rfl⟩ | split)

/-- Step 1 reads nothing of the lane. -/
theorem Carrier.hear_setLane (k : Carrier) (x : Lane) (good : Option RxHeader) :
    ({ k with lane := x } : Carrier).hear good = { k.hear good with lane := x } := by
  simp only [Carrier.hear, Carrier.hearAcquire, Carrier.hearFallback]
  repeat (first | rfl | split)

/-- A carrier that step 1 takes into FALLBACK from another state is one that falls back. -/
theorem Carrier.fallsBack_iff (k : Carrier) (good : Option RxHeader) :
    k.fallsBack good = (decide ((k.hear good).control.state = .fallback) && decide (k.control.state ≠ .fallback)) := by
  have hf : (k.control.freshen good).tf = k.control.tf := rfl
  have hst : (k.control.freshen good).state = k.control.state := rfl
  by_cases h : k.control.tf ≤ (k.control.freshen good).freshness <;> cases hs : k.control.state <;>
    simp only [Carrier.fallsBack, Carrier.hear, hf, hst, hs, h, CarrierState.carries, decide_true, decide_false, if_true, if_false,
      Bool.and_true, Bool.and_false, Carrier.enterFallback, Control.enter]
  all_goals try rfl
  all_goals
    simp only [Carrier.hearAcquire, Carrier.hearFallback]
    repeat (first | simp [hst, hs, Carrier.enterRun, Control.enter] | split)

/-! ### The Scheduler keeps its outbound profile -/

@[simp] theorem Scheduler.arrival_outbound (d : Scheduler) (r : Bool) (n : FrameNo) (p : Nat) (g : Option RxHeader) :
    (d.arrival r n p g).outbound = d.outbound := by
  simp only [Scheduler.arrival, Scheduler.answerRequest, Scheduler.forget, Scheduler.schedule, Scheduler.record]
  repeat (first | rfl | split)

/-! ### The whole arrival -/

/-- The carrier that an arrival of a judged header leaves behind, before the Resequencer takes any item (R14). -/
def Carrier.afterArrival (k : Carrier) (f : InboundFrame) (j : Except BadHeader RxHeader) : Carrier :=
  let k1 := { k with lane := k.lane.countArrival j }.hear (goodOf j)
  (((k1.estimateAndRequest f (goodOf j)).1.scheduleStep (goodOf j)).testStep f (goodOf j)).handOver (frameItems k1.ladder (goodOf j) f.slots)

/-- An arrival outside OFF: its carrier changed, then the signals of steps 1 and 3, then the record of step 6. -/
theorem State.inbound_eq {s : State} {c : CarrierId} (h : (s.car c).control.state ≠ .off) (f : InboundFrame) (taken : Nat) :
    s.inbound c f taken =
      let k := s.car c
      let j := judgeHeader k.ladder.length f
      let k0 : Carrier := { k with lane := k.lane.countArrival j }
      let k1 := k0.hear (goodOf j)
      let e := k1.estimateAndRequest f (goodOf j)
      let heard :=
        (((s.setCar c (k.afterArrival f j)).signalIf (k0.ladderDiffers (goodOf j)) (.ladderMismatch c)).signalIf
          (k0.fallsBack (goodOf j)) (.fallback c)).signalContribution c
      ((heard.signalMarks c e.2).capture c
        (observationOf k1 (e.1.scheduleStep (goodOf j)) f (goodOf j) e.2 (k0.fallsBack (goodOf j)))).takeItems c taken := by
  simp only [State.inbound, if_neg h, State.arrivalSteps, State.hear, State.car_setCar_same, State.setCar_setCar]
  generalize hj : judgeHeader (s.car c).ladder.length f = j
  generalize hk0 : ({ s.car c with lane := (s.car c).lane.countArrival j } : Carrier) = k0
  generalize hk1 : k0.hear (goodOf j) = k1
  have hcar : ((((s.setCar c k1).signalIf (k0.ladderDiffers (goodOf j)) (.ladderMismatch c)).signalIf (k0.fallsBack (goodOf j))
      (.fallback c)).signalContribution c).car c = k1 := by simp [State.car]
  rw [hcar]
  generalize he : k1.estimateAndRequest f (goodOf j) = e
  generalize ho : observationOf k1 ((e.1.scheduleStep (goodOf j)).testStep f (goodOf j)) f (goodOf j) e.2
    (k0.fallsBack (goodOf j)) = o
  have ho' : observationOf k1 (e.1.scheduleStep (goodOf j)) f (goodOf j) e.2 (k0.fallsBack (goodOf j)) = o := by
    rw [← ho]; rfl
  rw [ho']
  have hafter : (s.car c).afterArrival f j =
      ((e.1.scheduleStep (goodOf j)).testStep f (goodOf j)).handOver (frameItems k1.ladder (goodOf j) f.slots) := by
    simp only [Carrier.afterArrival, hk0, hk1, he]
  rw [hafter]
  have hladder : ((e.1.scheduleStep (goodOf j)).testStep f (goodOf j)).ladder = k1.ladder := by subst he; rfl
  generalize hk5 : (e.1.scheduleStep (goodOf j)).testStep f (goodOf j) = k5 at hladder ⊢
  have hcontr : k1.contribution = (k5.handOver (frameItems k1.ladder (goodOf j) f.slots)).contribution := by
    subst hk5; subst he
    simp only [Carrier.contribution, Carrier.handOver, Carrier.testStep, Carrier.scheduleStep, Carrier.estimateAndRequest,
      Scheduler.arrival_outbound]
  simp only [State.setCar_signalIf, State.signalMarks, State.updCar]
  rw [← State.setCar_signalContribution hcontr]
  simp only [State.setCar_signalIf, State.setCar_capture, State.car_setCar_same, State.setCar_setCar, hladder]

/-- The carrier state after an arrival is the one that step 1 gives. -/
theorem State.inbound_control {s : State} {c : CarrierId} (h : (s.car c).control.state ≠ .off) (f : InboundFrame) (taken : Nat) :
    ((s.inbound c f taken).car c).control = ((s.car c).hear (goodOf (judgeHeader (s.car c).ladder.length f))).control := by
  rw [State.inbound_eq h]
  simp only []
  obtain ⟨l, e⟩ := State.takeItems_car taken (((((s.setCar c ((s.car c).afterArrival f (judgeHeader (s.car c).ladder.length f))).signalIf
    (({ s.car c with lane := (s.car c).lane.countArrival (judgeHeader (s.car c).ladder.length f) } : Carrier).ladderDiffers
      (goodOf (judgeHeader (s.car c).ladder.length f))) (.ladderMismatch c)).signalIf
    (({ s.car c with lane := (s.car c).lane.countArrival (judgeHeader (s.car c).ladder.length f) } : Carrier).fallsBack
      (goodOf (judgeHeader (s.car c).ladder.length f))) (.fallback c)).signalContribution c).signalMarks c _ |>.capture c _) c c
  refine (congrArg Carrier.control e).trans ?_
  have hs : ∀ (t : State) (m : Marks), (t.signalMarks c m).carriers = t.carriers := fun t m => by simp [State.signalMarks]
  simp only [State.car, State.capture_carriers, hs, State.signalContribution_carriers, State.signalIf_carriers,
    State.setCar_carriers, Quad.get_set_same]
  show (({ s.carriers.get c with lane := _ } : Carrier).hear _).control = _
  rw [Carrier.hear_setLane]

/-- After an arrival the carrier contributes what step 1 leaves it contributing. -/
theorem State.inbound_contributions {s : State} {c : CarrierId} (h : (s.car c).control.state ≠ .off) (f : InboundFrame)
    (taken : Nat) :
    (s.inbound c f taken).admission.contributions =
      s.admission.contributions.set c ((s.car c).hear (goodOf (judgeHeader (s.car c).ladder.length f))).contribution := by
  rw [State.inbound_eq h]
  simp only [State.takeItems_admission, State.capture_admission, State.signalMarks, State.signalIf_admission,
    State.signalContribution_contributions, State.setCar_admission]
  congr 1
  simp only [State.car, State.signalIf_carriers, State.setCar_carriers, Quad.get_set_same]
  simp only [Carrier.contribution, Carrier.afterArrival, Carrier.handOver, Carrier.testStep, Carrier.scheduleStep,
    Carrier.estimateAndRequest, Scheduler.arrival_outbound, Carrier.hear_setLane]

/-- A carrier that falls back at an arrival has its FALLBACK latch set, and one that finds another ladder code its LADDER
MISMATCH latch. -/
theorem State.inbound_isSet {s : State} {c : CarrierId} (h : (s.car c).control.state ≠ .off) (f : InboundFrame) (taken : Nat) :
    ((s.car c).fallsBack (goodOf (judgeHeader (s.car c).ladder.length f)) = true →
        (s.inbound c f taken).alert.isSet (.fallback c) = true) ∧
      ((s.car c).ladderDiffers (goodOf (judgeHeader (s.car c).ladder.length f)) = true →
        (s.inbound c f taken).alert.isSet (.ladderMismatch c) = true) := by
  rw [State.inbound_eq h]
  refine ⟨fun hf => State.takeItems_isSet _ _ _ _ ?_, fun hd => State.takeItems_isSet _ _ _ _ ?_⟩
  · rw [State.capture_isSet _ _ _ _ (by simp)]
    have hf' : ({ s.car c with lane := (s.car c).lane.countArrival (judgeHeader (s.car c).ladder.length f) } : Carrier).fallsBack
        (goodOf (judgeHeader (s.car c).ladder.length f)) = true := hf
    simp only [State.signalMarks, State.signalIf_alert, apply_ite (fun a : Alert => a.isSet (.fallback c)), Alert.isSet_raise,
      State.signalContribution_isSet _ _ _ (show Latch.fallback c ≠ .shed by simp), hf', if_true]
    simp
  · rw [State.capture_isSet _ _ _ _ (by simp)]
    have hd' : ({ s.car c with lane := (s.car c).lane.countArrival (judgeHeader (s.car c).ladder.length f) } :
        Carrier).ladderDiffers (goodOf (judgeHeader (s.car c).ladder.length f)) = true := hd
    simp only [State.signalMarks, State.signalIf_alert, apply_ite (fun a : Alert => a.isSet (.ladderMismatch c)), Alert.isSet_raise,
      State.signalContribution_isSet _ _ _ (show Latch.ladderMismatch c ≠ .shed by simp), hd', if_true]
    simp

end Sys2Proof.Machine
end

