-- ==== Sys2Proof/Laws/Distributor.lean ====
section
/-! SUPPORT. What a draw, a run of draws and a grant can do (R116, R121, R125, R126), said once. -/

namespace Sys2Proof.Machine

/-! ### One draw -/

/-- A frame in progress goes on. -/
theorem Queues.draw_of_cursor {q : Queues} {cu : Cursor} (h : q.cursor = some cu) :
    q.draw = some (cursorSegment cu q.seq, q.advance cu) := by
  simp only [Queues.draw, Queues.select, h]

/-- With no frame in progress the head frame of the most important class with a frame leaves its queue. -/
theorem Queues.draw_of_head {q : Queues} (h : q.cursor = none) {k : ClassId} {f : Frame} {l : List Frame}
    (hk : q.frames.get k = f :: l) (hj : ∀ j, j < k → q.frames.get j = []) :
    q.draw =
      some (cursorSegment ⟨f, k, 0⟩ q.seq, { q with frames := q.frames.set k l }.advance ⟨f, k, 0⟩) := by
  have hh : q.headOf = some (k, f) := by
    match k, hk, hj with
    | 0, hk, _ => simp only [Quad.get] at hk; simp only [Queues.headOf, hk]
    | 1, hk, hj =>
      have h0 := hj 0 (by decide)
      simp only [Quad.get] at hk h0; simp only [Queues.headOf, hk, h0]
    | 2, hk, hj =>
      have h0 := hj 0 (by decide)
      have h1 := hj 1 (by decide)
      simp only [Quad.get] at hk h0 h1; simp only [Queues.headOf, hk, h0, h1]
    | 3, hk, hj =>
      have h0 := hj 0 (by decide)
      have h1 := hj 1 (by decide)
      have h2 := hj 2 (by decide)
      simp only [Quad.get] at hk h0 h1 h2; simp only [Queues.headOf, hk, h0, h1, h2]
  simp only [Queues.draw, Queues.select, h, hh, Quad.upd, hk, List.tail_cons]

/-- With nothing held, nothing is drawn. -/
theorem Queues.draw_of_empty {q : Queues} (h : q.cursor = none) (hk : ∀ k, q.frames.get k = []) : q.draw = none := by
  have h0 := hk 0
  have h1 := hk 1
  have h2 := hk 2
  have h3 := hk 3
  simp only [Quad.get] at h0 h1 h2 h3
  simp only [Queues.draw, Queues.select, h, Queues.headOf, h0, h1, h2, h3]

/-- The three cases of a draw. -/
theorem Queues.draw_cases (q : Queues) :
    (∃ cu, q.cursor = some cu ∧ q.draw = some (cursorSegment cu q.seq, q.advance cu)) ∨
      (q.cursor = none ∧ ∃ k f l, q.frames.get k = f :: l ∧
        q.draw = some (cursorSegment ⟨f, k, 0⟩ q.seq, { q with frames := q.frames.set k l }.advance ⟨f, k, 0⟩)) ∨
      (q.cursor = none ∧ (∀ k, q.frames.get k = []) ∧ q.draw = none) := by
  cases hc : q.cursor with
  | some cu => exact .inl ⟨cu, rfl, Queues.draw_of_cursor hc⟩
  | none =>
    refine .inr ?_
    by_cases hall : ∀ k, q.frames.get k = []
    · exact .inr ⟨rfl, hall, Queues.draw_of_empty hc hall⟩
    · refine .inl ⟨rfl, ?_⟩
      have hf : ∃ k, q.frames.get k ≠ [] := by by_contra hn; exact hall (fun k => by by_contra hk; exact hn ⟨k, hk⟩)
      have key : ∀ k f l, q.frames.get k = f :: l → (∀ j, j < k → q.frames.get j = []) → ∃ k f l, q.frames.get k = f :: l ∧
          q.draw = some (cursorSegment ⟨f, k, 0⟩ q.seq, { q with frames := q.frames.set k l }.advance ⟨f, k, 0⟩) :=
        fun k f l hk hj => ⟨k, f, l, hk, Queues.draw_of_head hc hk hj⟩
      cases h0 : q.frames.get 0 with
      | cons f l => exact key 0 f l h0 (fun j hj => absurd hj (by omega))
      | nil =>
        cases h1 : q.frames.get 1 with
        | cons f l => exact key 1 f l h1 (fun j hj => by rw [show j = 0 by omega]; exact h0)
        | nil =>
          cases h2 : q.frames.get 2 with
          | cons f l =>
            refine key 2 f l h2 (fun j hj => ?_)
            rcases (by omega : j = 0 ∨ j = 1) with rfl | rfl
            · exact h0
            · exact h1
          | nil =>
            cases h3 : q.frames.get 3 with
            | cons f l =>
              refine key 3 f l h3 (fun j hj => ?_)
              rcases (by omega : j = 0 ∨ j = 1 ∨ j = 2) with rfl | rfl | rfl
              · exact h0
              · exact h1
              · exact h2
            | nil =>
              obtain ⟨k, hk⟩ := hf
              rcases (by omega : k = 0 ∨ k = 1 ∨ k = 2 ∨ k = 3) with rfl | rfl | rfl | rfl
              · exact absurd h0 hk
              · exact absurd h1 hk
              · exact absurd h2 hk
              · exact absurd h3 hk

/-! ### The grant -/

/-- The standing request of the lowest-numbered carrier is granted. -/
theorem State.grant_of_first {s : State} {c : CarrierId} {n : FrameNo} (h : (s.car c).dist.request = some n)
    (hd : ∀ d, d < c → (s.car d).dist.request = none) : s.grant = some (c, n) := by
  match c, h, hd with
  | 0, h, _ => simp only [State.grant, h]
  | 1, h, hd => simp only [State.grant, h, hd 0 (by decide)]
  | 2, h, hd => simp only [State.grant, h, hd 0 (by decide), hd 1 (by decide)]
  | 3, h, hd => simp only [State.grant, h, hd 0 (by decide), hd 1 (by decide), hd 2 (by decide)]

/-- A granted request stands. -/
theorem State.grant_stands {s : State} {c : CarrierId} {n : FrameNo} (h : s.grant = some (c, n)) :
    (s.car c).dist.request = some n ∧ ∀ d, d < c → (s.car d).dist.request = none := by
  simp only [State.grant] at h
  split at h
  all_goals first | (simp only [Option.some.injEq, Prod.mk.injEq] at h; obtain ⟨rfl, rfl⟩ := h) | cases h
  all_goals
    refine ⟨by assumption, fun d hd => ?_⟩
    match d, hd with
    | 0, _ => first | assumption | contradiction
    | 1, _ => first | assumption | contradiction
    | 2, _ => first | assumption | contradiction
    | 3, _ => first | assumption | contradiction

/-- With no request standing nothing is granted. -/
theorem State.grant_none {s : State} (h : ∀ d, (s.car d).dist.request = none) : s.grant = none := by
  simp only [State.grant, h 0, h 1, h 2, h 3]

/-! ### The carrier at a fill -/

/-- The fill that brings the count to Dw below the ceiling: one step up, with a forced switch (R157). -/
theorem Carrier.sweepFill_up {k : Carrier} (h : k.test.sweepReaches = true) (ht : k.test.sweepStep < k.txCeil) :
    k.sweepFill =
      { k with
        test := { k.test with sweepStep := k.test.sweepStep + 1, sweepCount := 0 }
        sched := k.sched.force (k.test.sweepStep + 1) } := by
  have ha : k.test.sweepActive = true := by
    simp only [TestUnit.sweepReaches, Bool.and_eq_true] at h; exact h.1
  rw [Carrier.sweepFill, if_pos ha, if_pos h, if_pos ht]

/-- The fill that brings the count to Dw at the ceiling: the sweep ends (R157). -/
theorem Carrier.sweepFill_end {k : Carrier} (h : k.test.sweepReaches = true) (ht : ¬ k.test.sweepStep < k.txCeil) :
    k.sweepFill = { k with test := { k.test with sweepActive := false, sweepCount := k.test.sweepCount + 1 } } := by
  have ha : k.test.sweepActive = true := by
    simp only [TestUnit.sweepReaches, Bool.and_eq_true] at h; exact h.1
  rw [Carrier.sweepFill, if_pos ha, if_pos h, if_neg ht]

/-- The carrier at the fill that steps its sweep up. -/
theorem Carrier.chooseProfile_up {k : Carrier} {n : FrameNo} (h : k.test.sweepReaches = true) (ht : k.test.sweepStep < k.txCeil) :
    k.chooseProfile n =
      { k with
        test := { k.test with sweepStep := k.test.sweepStep + 1, sweepCount := 0 }
        sched := (k.sched.fillProfile n).2.force (k.test.sweepStep + 1) } :=
  Carrier.sweepFill_up (k := { k with sched := (k.sched.fillProfile n).2 }) h ht

/-- The carrier at the fill that ends its sweep. -/
theorem Carrier.chooseProfile_end {k : Carrier} {n : FrameNo} (h : k.test.sweepReaches = true)
    (ht : ¬ k.test.sweepStep < k.txCeil) :
    k.chooseProfile n =
      { k with
        test := { k.test with sweepActive := false, sweepCount := k.test.sweepCount + 1 }
        sched := (k.sched.fillProfile n).2 } :=
  Carrier.sweepFill_end (k := { k with sched := (k.sched.fillProfile n).2 }) h ht

@[simp] theorem Carrier.sweepFill_lane (k : Carrier) : k.sweepFill.lane = k.lane := by
  simp only [Carrier.sweepFill]; split <;> (try split) <;> (try split) <;> rfl
@[simp] theorem Carrier.sweepFill_control (k : Carrier) : k.sweepFill.control = k.control := by
  simp only [Carrier.sweepFill]; split <;> (try split) <;> (try split) <;> rfl
@[simp] theorem Carrier.sweepFill_est (k : Carrier) : k.sweepFill.est = k.est := by
  simp only [Carrier.sweepFill]; split <;> (try split) <;> (try split) <;> rfl
@[simp] theorem Carrier.sweepFill_ladder (k : Carrier) : k.sweepFill.ladder = k.ladder := by
  simp only [Carrier.sweepFill]; split <;> (try split) <;> (try split) <;> rfl
@[simp] theorem Carrier.sweepFill_req (k : Carrier) : k.sweepFill.req = k.req := by
  simp only [Carrier.sweepFill]; split <;> (try split) <;> (try split) <;> rfl
@[simp] theorem Carrier.sweepFill_dist (k : Carrier) : k.sweepFill.dist = k.dist := by
  simp only [Carrier.sweepFill]; split <;> (try split) <;> (try split) <;> rfl
@[simp] theorem Carrier.chooseProfile_lane (k : Carrier) (n : FrameNo) : (k.chooseProfile n).lane = k.lane := by
  simp [Carrier.chooseProfile]
@[simp] theorem Carrier.chooseProfile_control (k : Carrier) (n : FrameNo) : (k.chooseProfile n).control = k.control := by
  simp [Carrier.chooseProfile]
@[simp] theorem Carrier.chooseProfile_est (k : Carrier) (n : FrameNo) : (k.chooseProfile n).est = k.est := by
  simp [Carrier.chooseProfile]
@[simp] theorem Carrier.chooseProfile_ladder (k : Carrier) (n : FrameNo) : (k.chooseProfile n).ladder = k.ladder := by
  simp [Carrier.chooseProfile]
@[simp] theorem Carrier.chooseProfile_req (k : Carrier) (n : FrameNo) : (k.chooseProfile n).req = k.req := by
  simp [Carrier.chooseProfile]
@[simp] theorem Carrier.chooseProfile_dist (k : Carrier) (n : FrameNo) : (k.chooseProfile n).dist = k.dist := by
  simp [Carrier.chooseProfile]
@[simp] theorem Carrier.place_lane (k : Carrier) (n : Nat) : (k.place n).lane = k.lane := rfl
@[simp] theorem Carrier.place_control (k : Carrier) (n : Nat) : (k.place n).control = k.control := rfl
@[simp] theorem Carrier.place_est (k : Carrier) (n : Nat) : (k.place n).est = k.est := rfl
@[simp] theorem Carrier.place_ladder (k : Carrier) (n : Nat) : (k.place n).ladder = k.ladder := rfl
@[simp] theorem Carrier.place_req (k : Carrier) (n : Nat) : (k.place n).req = k.req := rfl
@[simp] theorem Carrier.place_sched (k : Carrier) (n : Nat) : (k.place n).sched = k.sched := rfl
@[simp] theorem Carrier.place_test (k : Carrier) (n : Nat) : (k.place n).test = k.test := rfl
@[simp] theorem Carrier.place_request (k : Carrier) (n : Nat) : (k.place n).dist.request = k.dist.request := rfl
@[simp] theorem Carrier.takeRecord_control (k : Carrier) (x : FillKind) (n : FrameNo) (p : Nat) (w : Filling) :
    (k.takeRecord x n p w).control = k.control := rfl
@[simp] theorem Carrier.takeRecord_est (k : Carrier) (x : FillKind) (n : FrameNo) (p : Nat) (w : Filling) :
    (k.takeRecord x n p w).est = k.est := rfl
@[simp] theorem Carrier.takeRecord_ladder (k : Carrier) (x : FillKind) (n : FrameNo) (p : Nat) (w : Filling) :
    (k.takeRecord x n p w).ladder = k.ladder := rfl
@[simp] theorem Carrier.takeRecord_req (k : Carrier) (x : FillKind) (n : FrameNo) (p : Nat) (w : Filling) :
    (k.takeRecord x n p w).req = k.req := rfl
@[simp] theorem Carrier.takeRecord_sched (k : Carrier) (x : FillKind) (n : FrameNo) (p : Nat) (w : Filling) :
    (k.takeRecord x n p w).sched = k.sched := rfl
@[simp] theorem Carrier.takeRecord_test (k : Carrier) (x : FillKind) (n : FrameNo) (p : Nat) (w : Filling) :
    (k.takeRecord x n p w).test = k.test := rfl
@[simp] theorem Carrier.dropRequest_lane (k : Carrier) : k.dropRequest.lane = k.lane := rfl
@[simp] theorem Carrier.dropRequest_control (k : Carrier) : k.dropRequest.control = k.control := rfl
@[simp] theorem Carrier.dropRequest_est (k : Carrier) : k.dropRequest.est = k.est := rfl
@[simp] theorem Carrier.dropRequest_ladder (k : Carrier) : k.dropRequest.ladder = k.ladder := rfl
@[simp] theorem Carrier.dropRequest_req (k : Carrier) : k.dropRequest.req = k.req := rfl
@[simp] theorem Carrier.dropRequest_sched (k : Carrier) : k.dropRequest.sched = k.sched := rfl
@[simp] theorem Carrier.dropRequest_test (k : Carrier) : k.dropRequest.test = k.test := rfl
@[simp] theorem Carrier.dropRequest_request (k : Carrier) : k.dropRequest.dist.request = none := rfl

end Sys2Proof.Machine
end

