-- ==== Sys2Proof/Laws/Fills.lean ====
section
/-! SUPPORT. What the draws of a data fill and a whole fill can do (R121 to R125), said once. -/

namespace Sys2Proof.Machine

/-! ### The fill that is being carried out -/

theorem State.drawOn_none {s : State} (h : s.filling = none) (n : Nat) : s.drawOn n = s := by simp only [State.drawOn, h]

/-- At most `n` more draws: the fill waits for its next draw, or it ends. -/
theorem State.drawOn_some {s : State} {w : OpenFill} (h : s.filling = some w) (n : Nat) :
    s.drawOn n =
      let m := min n (s.fillCapacity w - w.drawn.length)
      let d := s.queues.drawMany m
      let t := State.updCar { s with queues := d.2 } w.carrier (fun k => k.place d.1.length)
      if d.1.length = m ∧ (w.drawn ++ d.1).length < s.fillCapacity w then
        { t with filling := some { w with drawn := w.drawn ++ d.1 } }
      else t.endFill { w with drawn := w.drawn ++ d.1 } := by
  simp only [State.drawOn, h]

theorem State.completeFill_none {s : State} (h : s.filling = none) : s.completeFill = s := by simp only [State.completeFill, h]

/-- A completed fill makes all the draws it has left, and ends. -/
theorem State.completeFill_some {s : State} {w : OpenFill} (h : s.filling = some w) :
    s.completeFill =
      let d := s.queues.drawMany (s.fillCapacity w - w.drawn.length)
      (State.updCar { s with queues := d.2 } w.carrier (fun k => k.place d.1.length)).endFill { w with drawn := w.drawn ++ d.1 } := by
  simp only [State.completeFill, h, State.drawOn_some h, Nat.min_eq_right (Nat.sub_le _ _)]
  rw [if_neg]
  rintro ⟨h1, h2⟩
  rw [List.length_append, h1] at h2
  omega

/-- A completed fill leaves every other part of the state as it stands. -/
theorem State.completeFill_frame (s : State) :
    s.completeFill =
      { s with carriers := s.completeFill.carriers, queues := s.completeFill.queues, filling := s.completeFill.filling } := by
  cases h : s.filling with
  | none => rw [State.completeFill_none h]
  | some w => rw [State.completeFill_some h]; rfl

theorem State.completeFillOf_cases (s : State) (c : CarrierId) : s.completeFillOf c = s ∨ s.completeFillOf c = s.completeFill := by
  unfold State.completeFillOf
  split
  · exact .inl rfl
  · split
    · exact .inr rfl
    · exact .inl rfl

/-- With no fill of the carrier being carried out there is none to complete. -/
theorem State.completeFillOf_of_ne {s : State} {c : CarrierId} (h : ∀ w, s.filling = some w → w.carrier ≠ c) :
    s.completeFillOf c = s := by
  unfold State.completeFillOf
  split
  · rfl
  · rename_i w hw; rw [if_neg (h w hw)]

/-- A fill of the carrier that is being carried out is completed. -/
theorem State.completeFillOf_of_eq {s : State} {c : CarrierId} {w : OpenFill} (h : s.filling = some w) (hc : w.carrier = c) :
    s.completeFillOf c = s.completeFill := by
  simp only [State.completeFillOf, h, hc, if_true]

theorem State.endFill_filling (s : State) (w : OpenFill) : (s.endFill w).filling = none := rfl

@[simp] theorem State.completeFill_filling (s : State) : s.completeFill.filling = none := by
  cases h : s.filling with
  | none => rw [State.completeFill_none h, h]
  | some w => rw [State.completeFill_some h]; rfl

@[simp] theorem State.completeFill_site (s : State) : s.completeFill.site = s.site := by rw [State.completeFill_frame]

@[simp] theorem State.completeFill_classifier (s : State) : s.completeFill.classifier = s.classifier := by rw [State.completeFill_frame]

@[simp] theorem State.completeFill_admission (s : State) : s.completeFill.admission = s.admission := by rw [State.completeFill_frame]

@[simp] theorem State.completeFill_reseq (s : State) : s.completeFill.reseq = s.reseq := by rw [State.completeFill_frame]

@[simp] theorem State.completeFill_history (s : State) : s.completeFill.history = s.history := by rw [State.completeFill_frame]

@[simp] theorem State.completeFill_agent (s : State) : s.completeFill.agent = s.agent := by rw [State.completeFill_frame]

@[simp] theorem State.completeFill_alert (s : State) : s.completeFill.alert = s.alert := by rw [State.completeFill_frame]

@[simp] theorem State.completeFill_pins (s : State) : s.completeFill.pins = s.pins := by rw [State.completeFill_frame]

@[simp] theorem State.completeFill_out (s : State) : s.completeFill.out = s.out := by rw [State.completeFill_frame]

@[simp] theorem State.completeFill_drawPlan (s : State) : s.completeFill.drawPlan = s.drawPlan := by rw [State.completeFill_frame]

@[simp] theorem State.completeFill_pending (s : State) : s.completeFill.pending = s.pending := by rw [State.completeFill_frame]


/-- The end of a fill hands its record to its own carrier's lane. -/
theorem State.car_endFill (s : State) (w : OpenFill) (c : CarrierId) :
    (s.endFill w).car c =
      if c = w.carrier then (s.car c).takeRecord .data w.fn w.profile (dataFilling w.drawn (s.fillCapacity w)) else s.car c := by
  simp only [State.endFill, State.handRecord, State.car_updCar]
  split
  · rename_i h; subst h; rfl
  · rfl

/-- A completed fill leaves each carrier's blocks as they stand, but for the lane's records and Nf and the Distributor's counters. -/
theorem State.car_completeFill (s : State) (c : CarrierId) :
    s.completeFill.car c = s.car c ∨
      ∃ m n p w, s.completeFill.car c = ((s.car c).place m).takeRecord .data n p w := by
  cases h : s.filling with
  | none => exact .inl (by rw [State.completeFill_none h])
  | some w =>
    rw [State.completeFill_some h]
    by_cases hc : c = w.carrier
    · subst hc
      exact .inr ⟨_, _, _, _, by simp only [State.car_endFill, if_true, State.car_updCar_same]; rfl⟩
    · exact .inl (by simp only [State.car_endFill, if_neg hc, State.car_updCar]; rfl)

theorem Distributor.counted_request (d : Distributor) (k : FillKind) (a b : Nat) : (d.counted k a b).request = d.request := by
  cases k <;> rfl

@[simp] theorem State.car_completeFill_control (s : State) (c : CarrierId) : (s.completeFill.car c).control = (s.car c).control := by
  rcases s.car_completeFill c with h | ⟨m, n, p, w, h⟩
  · rw [h]
  · rw [h]; rfl

@[simp] theorem State.car_completeFill_est (s : State) (c : CarrierId) : (s.completeFill.car c).est = (s.car c).est := by
  rcases s.car_completeFill c with h | ⟨m, n, p, w, h⟩
  · rw [h]
  · rw [h]; rfl

@[simp] theorem State.car_completeFill_ladder (s : State) (c : CarrierId) : (s.completeFill.car c).ladder = (s.car c).ladder := by
  rcases s.car_completeFill c with h | ⟨m, n, p, w, h⟩
  · rw [h]
  · rw [h]; rfl

@[simp] theorem State.car_completeFill_req (s : State) (c : CarrierId) : (s.completeFill.car c).req = (s.car c).req := by
  rcases s.car_completeFill c with h | ⟨m, n, p, w, h⟩
  · rw [h]
  · rw [h]; rfl

@[simp] theorem State.car_completeFill_sched (s : State) (c : CarrierId) : (s.completeFill.car c).sched = (s.car c).sched := by
  rcases s.car_completeFill c with h | ⟨m, n, p, w, h⟩
  · rw [h]
  · rw [h]; rfl

@[simp] theorem State.car_completeFill_test (s : State) (c : CarrierId) : (s.completeFill.car c).test = (s.car c).test := by
  rcases s.car_completeFill c with h | ⟨m, n, p, w, h⟩
  · rw [h]
  · rw [h]; rfl

@[simp] theorem State.car_completeFill_request (s : State) (c : CarrierId) :
    (s.completeFill.car c).dist.request = (s.car c).dist.request := by
  rcases s.car_completeFill c with h | ⟨m, n, p, w, h⟩ <;> rw [h]
  exact Distributor.counted_request _ _ _ _

@[simp] theorem State.car_completeFill_outCounter (s : State) (c : CarrierId) :
    (s.completeFill.car c).lane.outCounter = (s.car c).lane.outCounter := by
  rcases s.car_completeFill c with h | ⟨m, n, p, w, h⟩
  · rw [h]
  · rw [h]; rfl

@[simp] theorem State.grant_completeFill (s : State) : s.completeFill.grant = s.grant := by simp only [State.grant, State.car_completeFill_request]

@[simp] theorem State.nextFillReaches_completeFill (s : State) : s.completeFill.nextFillReaches = s.nextFillReaches := by
  simp only [State.nextFillReaches, State.grant_completeFill, State.car_completeFill_control, State.car_completeFill_test]

@[simp] theorem State.completeFillOf_site (s : State) (c : CarrierId) : (s.completeFillOf c).site = s.site := by
  rcases s.completeFillOf_cases c with h | h <;> rw [h]
  exact s.completeFill_site

@[simp] theorem State.completeFillOf_classifier (s : State) (c : CarrierId) : (s.completeFillOf c).classifier = s.classifier := by
  rcases s.completeFillOf_cases c with h | h <;> rw [h]
  exact s.completeFill_classifier

@[simp] theorem State.completeFillOf_admission (s : State) (c : CarrierId) : (s.completeFillOf c).admission = s.admission := by
  rcases s.completeFillOf_cases c with h | h <;> rw [h]
  exact s.completeFill_admission

@[simp] theorem State.completeFillOf_reseq (s : State) (c : CarrierId) : (s.completeFillOf c).reseq = s.reseq := by
  rcases s.completeFillOf_cases c with h | h <;> rw [h]
  exact s.completeFill_reseq

@[simp] theorem State.completeFillOf_history (s : State) (c : CarrierId) : (s.completeFillOf c).history = s.history := by
  rcases s.completeFillOf_cases c with h | h <;> rw [h]
  exact s.completeFill_history

@[simp] theorem State.completeFillOf_agent (s : State) (c : CarrierId) : (s.completeFillOf c).agent = s.agent := by
  rcases s.completeFillOf_cases c with h | h <;> rw [h]
  exact s.completeFill_agent

@[simp] theorem State.completeFillOf_alert (s : State) (c : CarrierId) : (s.completeFillOf c).alert = s.alert := by
  rcases s.completeFillOf_cases c with h | h <;> rw [h]
  exact s.completeFill_alert

@[simp] theorem State.completeFillOf_pins (s : State) (c : CarrierId) : (s.completeFillOf c).pins = s.pins := by
  rcases s.completeFillOf_cases c with h | h <;> rw [h]
  exact s.completeFill_pins

@[simp] theorem State.completeFillOf_out (s : State) (c : CarrierId) : (s.completeFillOf c).out = s.out := by
  rcases s.completeFillOf_cases c with h | h <;> rw [h]
  exact s.completeFill_out

@[simp] theorem State.completeFillOf_drawPlan (s : State) (c : CarrierId) : (s.completeFillOf c).drawPlan = s.drawPlan := by
  rcases s.completeFillOf_cases c with h | h <;> rw [h]
  exact s.completeFill_drawPlan

@[simp] theorem State.completeFillOf_pending (s : State) (c : CarrierId) : (s.completeFillOf c).pending = s.pending := by
  rcases s.completeFillOf_cases c with h | h <;> rw [h]
  exact s.completeFill_pending

@[simp] theorem State.car_completeFillOf_control (s : State) (c d : CarrierId) : ((s.completeFillOf c).car d).control = (s.car d).control := by
  rcases s.completeFillOf_cases c with h | h <;> rw [h]
  exact s.car_completeFill_control d

@[simp] theorem State.car_completeFillOf_est (s : State) (c d : CarrierId) : ((s.completeFillOf c).car d).est = (s.car d).est := by
  rcases s.completeFillOf_cases c with h | h <;> rw [h]
  exact s.car_completeFill_est d

@[simp] theorem State.car_completeFillOf_ladder (s : State) (c d : CarrierId) : ((s.completeFillOf c).car d).ladder = (s.car d).ladder := by
  rcases s.completeFillOf_cases c with h | h <;> rw [h]
  exact s.car_completeFill_ladder d

@[simp] theorem State.car_completeFillOf_req (s : State) (c d : CarrierId) : ((s.completeFillOf c).car d).req = (s.car d).req := by
  rcases s.completeFillOf_cases c with h | h <;> rw [h]
  exact s.car_completeFill_req d

@[simp] theorem State.car_completeFillOf_sched (s : State) (c d : CarrierId) : ((s.completeFillOf c).car d).sched = (s.car d).sched := by
  rcases s.completeFillOf_cases c with h | h <;> rw [h]
  exact s.car_completeFill_sched d

@[simp] theorem State.car_completeFillOf_test (s : State) (c d : CarrierId) : ((s.completeFillOf c).car d).test = (s.car d).test := by
  rcases s.completeFillOf_cases c with h | h <;> rw [h]
  exact s.car_completeFill_test d


/-- The plan of the draws plays no part in completing a fill. -/
theorem State.completeFill_withPlan (s : State) (l : List Nat) :
    State.completeFill { s with drawPlan := l } = { s.completeFill with drawPlan := l } := by
  rcases Option.eq_none_or_eq_some s.filling with h | ⟨w, h⟩
  · rw [State.completeFill_none h, State.completeFill_none (s := { s with drawPlan := l }) h]
  · rw [State.completeFill_some h, State.completeFill_some (s := { s with drawPlan := l }) h]; rfl

/-! ### The grant -/

/-- Going on with nothing listed completes the fill. -/
theorem State.goOn_nil {s : State} (h : s.drawPlan = []) : s.goOn = s.completeFill := by
  rcases Option.eq_none_or_eq_some s.filling with hf | ⟨w, hf⟩
  · simp only [State.goOn, hf, State.completeFill_none hf]
  · simp only [State.goOn, hf, h]

theorem State.goOn_none {s : State} (h : s.filling = none) : s.goOn = s := by simp only [State.goOn, h]

/-- FILL with a fill being carried out goes on with it. -/
theorem State.fill_some {s : State} {w : OpenFill} (h : s.filling = some w) : s.fill = s.goOn := by simp [State.fill, h]

theorem State.fill_none {s : State} (h : s.filling = none) : s.fill = s.grantFill.goOn := by simp [State.fill, h]

/-- With no plan, FILL after every fill that is being carried out is completed is the next fill, whole. -/
theorem State.fill_completeFill_nil {s : State} (hg : s.completeFill.grantFill.drawPlan = []) :
    s.completeFill.fill = s.fillNext := by
  rw [State.fill_none s.completeFill_filling, State.goOn_nil hg]; rfl

end Sys2Proof.Machine
end

