-- ==== Sys2Proof/Laws/Commands.lean ====
section
/-! SUPPORT. What no command of a management frame changes: the pins and the commands that wait. -/

namespace Sys2Proof.Machine

/-- The pins and the queue of commands that wait. -/
def State.outside (s : State) : Pins × List Instr := (s.pins, s.pending)

@[simp] theorem State.setCar_outside (s : State) (c : CarrierId) (k : Carrier) : (s.setCar c k).outside = s.outside := rfl

@[simp] theorem State.signal_outside (s : State) (l : Latch) : (s.signal l).outside = s.outside := rfl

@[simp] theorem State.signalContribution_outside (s : State) (c : CarrierId) : (s.signalContribution c).outside = s.outside := by
  simp [State.outside]

@[simp] theorem State.shedEvaluate_outside (s : State) : s.shedEvaluate.outside = s.outside := by simp [State.outside]

@[simp] theorem State.completeFill_outside (s : State) : s.completeFill.outside = s.outside := by simp [State.outside]

@[simp] theorem State.completeFillOf_outside (s : State) (c : CarrierId) : (s.completeFillOf c).outside = s.outside := by
  simp [State.outside]

@[simp] theorem refuse_state (r : Result) (s : State) : (refuse r s).2 = s := rfl

@[simp] theorem answer_state (r : Result) (l : List Byte) (s : State) : (answer r l s).2 = s := rfl

/-- A command of a carrier leaves the outside when it does so for every carrier. -/
theorem withCarrier_outside (b : Byte) (s : State) (f : CarrierId → Ran) (h : ∀ c, (f c).2.outside = s.outside) :
    (withCarrier b s f).2.outside = s.outside := by
  unfold withCarrier
  split
  · exact h _
  · rfl

theorem setCarrierParam_outside (p : Param) (b : Byte) (v : BitVec 32) (s : State) :
    (setCarrierParam p b v s).2.outside = s.outside := by
  refine withCarrier_outside _ _ _ (fun c => ?_)
  split <;> rfl

theorem setDeviceParam_outside {stored : Stored State} {read : State → Int} {s : State}
    (h : ∀ x ∈ stored, x.2.outside = s.outside) : (setDeviceParam stored read s).2.outside = s.outside := by
  unfold setDeviceParam
  split
  · exact h _ rfl
  · rfl

theorem runSet_outside (p : Param) (b : Byte) (v : BitVec 32) (s : State) : (runSet p b v s).2.outside = s.outside := by
  cases p
  case defaultClass => exact setDeviceParam_outside (by simp [storeDefaultClass, storeClamped, State.outside])
  case gapTime => exact setDeviceParam_outside (by simp [storeTg, storeClamped, State.outside])
  case lateRunLimit => exact setDeviceParam_outside (by simp [storeK, storeClamped, State.outside])
  case managementTypeCode =>
    refine setDeviceParam_outside (fun x hx => ?_)
    unfold storeTypeCode at hx
    split at hx
    · cases hx
    · simp only [storeClamped, Option.mem_def, Option.some.injEq] at hx
      subst hx; rfl
  case alertMask => rfl
  case txCeiling => exact withCarrier_outside _ _ _ (fun c => (setCarrierParam_outside _ b v _).trans (State.completeFillOf_outside s c))
  all_goals exact setCarrierParam_outside _ b v s

theorem runGet_state (p b : Byte) (s : State) : (runGet p b s).2 = s := by
  unfold runGet
  split
  · rename_i q _
    cases q <;> simp only [getParam, withCarrier, answer_state] <;> split <;> rfl
  · rfl

/-- No command of a management frame changes a pin or the queue of commands that wait. -/
theorem runCommand_outside (x : Command) (s : State) : (runCommand x s).2.outside = s.outside := by
  cases x with
  | set p b v => exact runSet_outside p b v s
  | get p b => rw [runCommand, runGet_state]
  | captureCancel => rfl
  | latchClear mask => rfl
  | resetTraffic => exact State.completeFill_outside s
  | resetDevice => rfl
  | status clear => simp only [runCommand, runStatus]; split <;> rfl
  | captureRead offset n => simp only [runCommand, runCaptureRead]; split <;> [rfl; (split <;> rfl)]
  | writeFlow start l => simp only [runCommand, runWriteFlow]; repeat' (first | rfl | split)
  | writeClassLimit start l => simp only [runCommand, runWriteClassLimit]; split <;> rfl
  | writeShed start l =>
    simp only [runCommand, runWriteShed]
    split
    · rfl
    · split <;> simp [State.outside]
  | tableRead t b start n =>
    have hr (l : List (List Byte)) : (readPositions l start n s).2.outside = s.outside := by
      unfold readPositions; split <;> rfl
    simp only [runCommand, runTableRead]
    split
    · rfl
    · split
      · exact hr _
      · exact withCarrier_outside _ _ _ (fun c => hr _)
  | disable b =>
    refine withCarrier_outside _ _ _ (fun c => ?_)
    dsimp only
    split
    · rfl
    · refine (State.signalContribution_outside _ _).trans (Eq.trans ?_ (State.completeFillOf_outside s c))
      unfold State.cutCapture; split <;> rfl
  | _ =>
    refine withCarrier_outside _ _ _ (fun c => ?_)
    try dsimp only
    repeat'
      first
        | rfl
        | exact State.completeFillOf_outside s c
        | exact (State.signalContribution_outside _ _).trans (State.completeFillOf_outside s c)
        | exact State.signalContribution_outside _ _
        | (split)

end Sys2Proof.Machine
end

