-- ==== Sys2Proof/Laws/Events.lean ====
section
/-! SUPPORT. How an event is taken: while RESET is low nothing happens, otherwise the event's own operation is the next state. -/

namespace Sys2Proof.Machine

theorem State.unlessHeld_live {s : State} (h : s.pins.resetLow = false) (f : State → State) : s.unlessHeld f = .next (f s) := by
  simp [State.unlessHeld, h]

theorem State.unlessHeld_held {s : State} (h : s.pins.resetLow = true) (f : State → State) : s.unlessHeld f = .next s := by
  simp [State.unlessHeld, h]

/-- A command row outside a held reset: the command alone. -/
theorem aloneAnswer_live {s : State} (h : s.pins.resetLow = false) (x : Command) : aloneAnswer x s = .next (s.runAlone x) :=
  State.unlessHeld_live h _

/-- A command other than STATUS and the two reads asks for at most 4 bytes of data, which fit the response of a command given
alone. -/
theorem entryFits_small {n : Nat} (h : n ≤ 1492) : entryFits 3 n 0 = true := by
  have : 3 + 5 + n + 5 * 0 ≤ Config.responseLimit := by unfold Config.responseLimit; omega
  exact decide_eq_true this

/-- A command given alone whose data fit is run, and its reply is kept and counted. -/
theorem State.runAlone_fits {s : State} {x : Command} (h : successLength x s ≤ 1492) :
    s.runAlone x = (runCommand x s).2.returned (runCommand x s).1 := by
  simp only [State.runAlone, checkAndRun, entryFits_small h, if_true]

/-- A command row outside a held reset whose data fit: the command's own rule, its reply kept and counted. -/
theorem aloneAnswer_runs {s : State} (h : s.pins.resetLow = false) {x : Command} (hx : successLength x s ≤ 1492) :
    aloneAnswer x s = .next ((runCommand x s).2.returned (runCommand x s).1) := by
  rw [aloneAnswer_live h, State.runAlone_fits hx]

/-- A command given alone whose data do not fit is refused with TOO_LONG and has no effect. -/
theorem State.runAlone_tooLong {s : State} {x : Command} (h : 1492 < successLength x s) :
    s.runAlone x = s.returned { result := .tooLong, data := [] } := by
  have : entryFits 3 (successLength x s) 0 = false := by
    have : ¬ 3 + 5 + successLength x s + 5 * 0 ≤ Config.responseLimit := by unfold Config.responseLimit; omega
    exact decide_eq_false this
  simp [State.runAlone, checkAndRun, this, refuse]

/-- A command of a carrier number from 0 to 3. -/
theorem withCarrier_some {b : Byte} {c : CarrierId} (h : carrierOf b = some c) (s : State) (f : CarrierId → Ran) :
    withCarrier b s f = f c := by
  simp [withCarrier, h]

/-- A command of a carrier number above 3 is refused with RANGE and has no effect. -/
theorem withCarrier_none {b : Byte} (h : carrierOf b = none) (s : State) (f : CarrierId → Ran) :
    withCarrier b s f = ({ result := .range, data := [] }, s) := by
  simp [withCarrier, h, refuse]

end Sys2Proof.Machine
end

