-- ==== Sys2Proof/Laws/Held.lean ====
section
/-! SUPPORT. One draw keeps the occupancies at the slots held (R113, R116, R126). -/

namespace Sys2Proof.Machine

/-- One draw gives the number of the sequence counter out, and returns one slot (R116, R126). -/
theorem Queues.draw_held {q q' : Queues} {g : Segment} (h : q.draw = some (g, q')) :
    q'.seq = q.seq + 1 ∧ g.seq = q.seq ∧ g.idle = false ∧ (q.heldOk → q'.heldOk ∧ q'.occupancy.sum + 1 = q.occupancy.sum) := by
  have key : ∀ (cu : Cursor) (q0 : Queues), q0.seq = q.seq → 
     (q.heldOk → q0.occupancy = q.occupancy ∧ (∀ k : ClassId, ∀ f ∈ q0.frames.get k, 1 ≤ slotCount f) ∧ cu.next < slotCount cu.frame ∧ ∀ k : ClassId, q.occupancy.get k = ((q0.frames.get k).map slotCount).sum + if cu.cls = k then slotCount cu.frame - cu.next else 0) → some (cursorSegment cu q.seq, q0.advance cu) = some (g, q') → 
     q'.seq = q.seq + 1 ∧ g.seq = q.seq ∧ g.idle = false ∧ (q.heldOk → q'.heldOk ∧ q'.occupancy.sum + 1 = q.occupancy.sum) := by
    intro cu q0 hs hh he
    simp only [Option.some.injEq, Prod.mk.injEq] at he
    obtain ⟨rfl, rfl⟩ := he
    refine ⟨by rw [← hs]; rfl, rfl, rfl, fun hk => ?_⟩
    obtain ⟨h1, h2, h3, h4⟩ := hh hk
    have hpos : 1 ≤ q.occupancy.get cu.cls := by rw [h4 cu.cls]; simp; omega
    refine ⟨⟨h2, ?_, ?_⟩, ?_⟩
    · intro x hx
      simp only [Queues.advance] at hx
      split at hx
      · simp at hx
      · simp only [Option.mem_def, Option.some.injEq] at hx; subst hx
        simp only; omega
    · intro k
      simp only [Queues.advance, Queues.inProgress, h1]
      by_cases hck : cu.cls = k
      · subst hck
        rw [Quad.get_upd_same, h4 cu.cls]
        simp only [if_true]
        split
        · rename_i x hx
          split at hx
          · cases hx
          · simp only [Option.some.injEq] at hx; subst hx; simp only [if_true]; omega
        · rename_i hx
          split at hx
          · omega
          · cases hx
      · rw [Quad.get_upd_ne _ _ (Ne.symm hck), h4 k]
        simp only [hck, if_false]
        split
        · rename_i x hx
          split at hx
          · cases hx
          · simp only [Option.some.injEq] at hx; subst hx; simp only [hck, if_false]
        · rfl
    · have := Quad.sum_set q.occupancy cu.cls (q.occupancy.get cu.cls - 1)
      simp only [Queues.advance, Quad.upd, h1]
      omega
  rcases Queues.draw_cases q with ⟨cu, hc, hd⟩ | ⟨hc, k, f, l, hk, hd⟩ | ⟨_, _, hd⟩
  · rw [hd] at h
    refine key cu q rfl (fun hh => ⟨rfl, hh.1, (hh.2.1 cu hc).2, fun k => ?_⟩) h
    rw [hh.2.2 k]; simp only [Queues.inProgress, hc]
  · rw [hd] at h
    refine key ⟨f, k, 0⟩ { q with frames := q.frames.set k l } rfl (fun hh => ⟨rfl, ?_, ?_, ?_⟩) h
    · intro j x hx
      by_cases hjk : j = k
      · subst hjk; simp only [Quad.get_set_same] at hx; exact hh.1 j x (by rw [hk]; exact List.mem_cons_of_mem _ hx)
      · simp only [Quad.get_set_ne _ _ hjk] at hx; exact hh.1 j x hx
    · exact hh.1 k f (by rw [hk]; exact List.mem_cons_self)
    · intro j
      rw [hh.2.2 j]; simp only [Queues.inProgress, hc]
      by_cases hjk : j = k
      · subst hjk; simp only [Quad.get_set_same, hk, List.map_cons, List.sum_cons, if_true]; omega
      · simp only [Quad.get_set_ne _ _ hjk, Ne.symm hjk, if_false]
  · rw [hd] at h; cases h


end Sys2Proof.Machine
end

