-- ==== Sys2Proof/Laws/Lane.lean ====
section
/-! SUPPORT. What an outbound frame start can do (R3), said once. -/

namespace Sys2Proof.Machine

/-- With no request of the carrier standing, nothing is served before its start. -/
theorem State.serveBefore_of_none {s : State} {c : CarrierId} (h : (s.car c).dist.request = none) (n : Nat) :
    s.serveBefore c n = s := by
  cases n with
  | zero => rfl
  | succ n => simp only [State.serveBefore, h, Option.isSome_none, Bool.false_eq_true, if_false]

/-- The request timer counts a start: only the request state, the timer and the timeouts counter can change. -/
theorem Requester.countStart_of_expires {q : Requester} (h : q.timerExpires = true) :
    q.countStart = { q with state := .idle, timer := 0, timeouts := bump q.timeouts } := by
  cases hs : q.state <;> simp_all [Requester.countStart, Requester.timerExpires, Requester.abandon]

theorem Requester.countStart_of_not_expires {q : Requester} (h : q.timerExpires = false) :
    q.countStart = { q with timer := match q.state with | .requesting _ => q.timer - 1 | _ => q.timer } := by
  cases hs : q.state <;> simp_all [Requester.countStart, Requester.timerExpires] <;> (rw [← hs])

/-- A header reads nothing of the Requester but its request state and tag. -/
theorem Carrier.header_congr {k k' : Carrier} (r : FillRecord) (h1 : k.control.state = k'.control.state)
    (h2 : k.ladder.code = k'.ladder.code) (h3 : k.req.state = k'.req.state) (h4 : k.req.tag = k'.req.tag)
    (h5 : k.sched.answer = k'.sched.answer) : k.header r = k'.header r := by
  simp only [Carrier.header, Carrier.headerBits, requestFields, answerFields, h1, h2, h3, h4, h5]

/-- An outbound start of a carrier that is not OFF, with the record of the next frame held once its fills are made. -/
theorem State.outboundStart_next {s : State} {c : CarrierId} {r : FillRecord} (h : s.pins.resetLow = false)
    (h2 : (s.car c).control.state ≠ .off)
    (h4 : ((s.beforeStart c).car c).lane.recordOf (((s.beforeStart c).car c).lane.outCounter + 1) = some r) :
    s.outboundStart c =
      let t := s.beforeStart c
      .next ((t.setCar c ((t.car c).started ((t.car c).lane.outCounter + 1))).toModem c
        { header := { t.car c with req := (t.car c).req.countStart }.header r, record := r }) := by
  simp only [State.outboundStart, State.startFrame, h, h2, if_false, Bool.false_eq_true, h4]

/-- An outbound start of an OFF carrier is ignored. -/
theorem State.outboundStart_off {s : State} {c : CarrierId} (h2 : (s.car c).control.state = .off) :
    s.outboundStart c = .next s := by
  simp only [State.outboundStart, h2, if_true, ite_self]

end Sys2Proof.Machine
end

