-- ==== Sys2Proof/Laws/Operands.lean ====
section
/-! SUPPORT. The laws of bit fields, byte order, ranges and counters. -/

namespace Sys2Proof.Machine

/-! ### Bit fields -/

/-- The high part of two joined fields. -/
theorem extract_append_high {m n : Nat} (a : BitVec m) (b : BitVec n) : (a ++ b).extractLsb' n m = a := by
  apply BitVec.eq_of_getLsbD_eq
  intro i hi
  simp [BitVec.getLsbD_append, hi]

/-- The low part of two joined fields. -/
theorem extract_append_low {m n : Nat} (a : BitVec m) (b : BitVec n) : (a ++ b).extractLsb' 0 n = b := by
  apply BitVec.eq_of_getLsbD_eq
  intro i hi
  simp [BitVec.getLsbD_append, hi]

/-- A field inside the low part of two joined fields. -/
theorem extract_append_inside {m n w l : Nat} (a : BitVec m) (b : BitVec n) (h : l + w ≤ n) :
    (a ++ b).extractLsb' l w = b.extractLsb' l w := by
  apply BitVec.eq_of_getLsbD_eq
  intro i hi
  have : l + i < n := by omega
  simp [BitVec.getLsbD_append, hi, this]

/-- A field inside the high part of two joined fields. -/
theorem extract_append_outside {m n w l : Nat} (a : BitVec m) (b : BitVec n) :
    (a ++ b).extractLsb' (n + l) w = a.extractLsb' l w := by
  apply BitVec.eq_of_getLsbD_eq
  intro i hi
  have : ¬ n + l + i < n := by omega
  simp [BitVec.getLsbD_append, hi, this]
  congr 1
  omega

/-- The two parts of a word joined again. -/
theorem join_extract {m n : Nat} (x : BitVec (m + n)) : x.extractLsb' n m ++ x.extractLsb' 0 n = x := by
  apply BitVec.eq_of_getLsbD_eq
  intro i hi
  rw [BitVec.getLsbD_append]
  by_cases h : i < n
  · simp [h]
  · have h1 : i - n < m := by omega
    have h2 : n + (i - n) = i := by omega
    simp [h, h1, h2]

/-! ### Byte order -/

@[simp] theorem be16_length (n : Nat) : (be16 n).length = 2 := rfl

@[simp] theorem be32_length (n : Nat) : (be32 n).length = 4 := rfl

@[simp] theorem byteOf_length (n : Nat) : (byteOf n).length = 1 := rfl

@[simp] theorem flagByte_length (b : Bool) : (flagByte b).length = 1 := rfl

@[simp] theorem signed16_length (v : Int) : (signed16 v).length = 2 := rfl

@[simp] theorem signed32_length (v : Int) : (signed32 v).length = 4 := rfl

/-- Two bytes of a number below 65,536 are read back as the number. -/
theorem word16_be16 (n : Nat) (h : n < 65536) :
    (word16 (BitVec.ofNat 8 (n / 256)) (BitVec.ofNat 8 n)).toNat = n := by
  simp only [word16, BitVec.toNat_append, BitVec.toNat_ofNat]
  rw [← Nat.shiftLeft_add_eq_or_of_lt (Nat.mod_lt _ (by decide))]
  simp only [Nat.shiftLeft_eq]
  omega

@[simp] theorem padTo_length (n : Nat) (l : List Byte) : (padTo n l).length = l.length + (n - l.length) := by
  simp [padTo]

/-- Padding to a length that is already there changes nothing. -/
theorem padTo_full (n : Nat) (l : List Byte) (h : n ≤ l.length) : padTo n l = l := by
  simp [padTo, Nat.sub_eq_zero_of_le h]

/-! ### Ranges and counters -/

theorem clampInt_lower (lo hi v : Int) : lo ≤ clampInt lo hi v := by
  simp only [clampInt]
  omega

theorem clampInt_upper (lo hi v : Int) (h : lo ≤ hi) : clampInt lo hi v ≤ hi := by
  simp only [clampInt]
  omega

/-- A value inside its range is not changed. -/
theorem clampInt_inside (lo hi v : Int) (h1 : lo ≤ v) (h2 : v ≤ hi) : clampInt lo hi v = v := by
  simp only [clampInt]
  omega

/-- A counter never passes 4,294,967,295. -/
theorem bumpBy_le (c n : Nat) : bumpBy c n ≤ Config.counterMax := Nat.min_le_right _ _

/-- A counter below its maximum counts. -/
theorem bump_of_lt (c : Nat) (h : c < Config.counterMax) : bump c = c + 1 := by
  simp only [bump, bumpBy]
  omega

end Sys2Proof.Machine
end

