-- ==== Sys2Proof/Laws/Params.lean ====
section
/-! SUPPORT. What SET and GET can do (R172, R177), said once: a parameter of a carrier is stored or refused, a numeric value is clamped
and stored, and the carrier number is read for carrier parameters alone. -/

namespace Sys2Proof.Machine

/-- A carrier number from 0 to 3 names its carrier. -/
theorem carrierOf_of_val {b : Byte} {c : CarrierId} (h : b.toNat = c.val) : carrierOf b = some c := by
  have hc : b.toNat < 4 := h ▸ c.isLt
  simp only [carrierOf, hc, dif_pos, Option.some.injEq]
  exact Fin.ext h

/-- A carrier number above 3 names none. -/
theorem carrierOf_of_large {b : Byte} (h : 4 ≤ b.toNat) : carrierOf b = none := by
  simp only [carrierOf, Nat.not_lt.mpr h, dif_neg, not_false_eq_true]

/-- The result of a clamped value: OK exactly when the value lay in its range (R172). -/
theorem okOrClamped_clampInt {lo hi v : Int} (h : lo ≤ hi) :
    okOrClamped (decide (clampInt lo hi v ≠ v)) = if lo ≤ v ∧ v ≤ hi then .ok else .clamped := by
  by_cases hv : lo ≤ v ∧ v ≤ hi
  · simp [okOrClamped, clampInt_inside lo hi v hv.1 hv.2, hv]
  · have hne : clampInt lo hi v ≠ v := fun he =>
      hv ⟨he ▸ clampInt_lower lo hi v, he ▸ clampInt_upper lo hi v h⟩
    simp only [okOrClamped, hne, hv, ne_eq, not_false_eq_true, decide_true, if_true, if_false]

/-- A numeric value is stored at its clamped value. -/
theorem storeClamped_eq {α : Type} {lo hi : Int} (h : lo ≤ hi) (v : Int) (put : Int → α) :
    storeClamped lo hi v put = some (if lo ≤ v ∧ v ≤ hi then .ok else .clamped, put (clampInt lo hi v)) := by
  simp only [storeClamped, okOrClamped_clampInt h]

/-- The parameters of the device; the others stand per carrier (R177). -/
def deviceParam (p : Param) : Bool :=
  match p with
  | .defaultClass | .gapTime | .lateRunLimit | .managementTypeCode | .alertMask => true
  | _ => false

/-- The parameters whose SET waits for no fill: every one of a carrier but the tx ceiling (R122). -/
def plainParam (p : Param) : Bool := !deviceParam p && decide (p ≠ .txCeiling)

/-- A SET given alone runs its parameter's rule. -/
theorem aloneAnswer_set {s : State} (h : s.pins.resetLow = false) (p : Param) (b : Byte) (v : BitVec 32) :
    aloneAnswer (.set p b v) s = .next ((runSet p b v s).2.returned (runSet p b v s).1) :=
  aloneAnswer_runs h (x := .set p b v) (show (4 : Nat) ≤ 1492 by decide)

/-- A GET given alone. -/
theorem aloneAnswer_get {s : State} (h : s.pins.resetLow = false) (p b : Byte) :
    aloneAnswer (.get p b) s = .next ((runGet p b s).2.returned (runGet p b s).1) :=
  aloneAnswer_runs h (x := .get p b) (show (4 : Nat) ≤ 1492 by decide)

/-- A SET of a plain carrier parameter is the rule of `setCarrierParam`. -/
theorem runSet_carrier {p : Param} (h : plainParam p = true) (b : Byte) (v : BitVec 32) (s : State) :
    runSet p b v s = setCarrierParam p b v s := by
  cases p <;> first | rfl | cases h

/-- A GET of a carrier parameter is the stored value of its carrier. -/
theorem getParam_carrier {p : Param} (h : deviceParam p = false) (b : Byte) (s : State) :
    getParam p b s = withCarrier b s (fun c => answer .ok (signed32 (carrierParam p (s.car c))) s) := by
  cases p <;> first | rfl | cases h

/-- A SET of a carrier parameter that is stored. -/
theorem aloneAnswer_set_stored {s : State} (h : s.pins.resetLow = false) {p : Param} (hp : plainParam p = true) {b : Byte}
    {c : CarrierId} (hb : b.toNat = c.val) {v : BitVec 32} {r : Result} {k : Carrier}
    (hs : storeCarrierParam p (s.car c) v.toInt = some (r, k)) :
    aloneAnswer (.set p b v) s = .next ((s.setCar c k).returned ⟨r, signed32 (carrierParam p k)⟩) := by
  rw [aloneAnswer_set h, runSet_carrier hp]
  simp only [setCarrierParam, withCarrier_some (carrierOf_of_val hb), hs, answer]

/-- A SET of a carrier parameter that is refused. -/
theorem aloneAnswer_set_refused {s : State} (h : s.pins.resetLow = false) {p : Param} (hp : plainParam p = true) {b : Byte}
    {c : CarrierId} (hb : b.toNat = c.val) {v : BitVec 32} (hs : storeCarrierParam p (s.car c) v.toInt = none) :
    aloneAnswer (.set p b v) s = .next (s.returned ⟨.range, []⟩) := by
  rw [aloneAnswer_set h, runSet_carrier hp]
  simp only [setCarrierParam, withCarrier_some (carrierOf_of_val hb), hs, refuse]

/-- A SET of the tx ceiling, after the carrier's fill that is being carried out is completed. -/
theorem aloneAnswer_setTxCeiling {s : State} (h : s.pins.resetLow = false) {b : Byte} {c : CarrierId} (hb : b.toNat = c.val)
    {v : BitVec 32} {r : Result} {k : Carrier} (hs : storeCarrierParam .txCeiling ((s.completeFillOf c).car c) v.toInt = some (r, k)) :
    aloneAnswer (.set .txCeiling b v) s =
      .next (((s.completeFillOf c).setCar c k).returned ⟨r, signed32 (carrierParam .txCeiling k)⟩) := by
  rw [aloneAnswer_set h]
  simp only [runSet, setTxCeiling, setCarrierParam, withCarrier_some (carrierOf_of_val hb), hs, answer]

/-! ### Each plain numeric parameter: what is stored, and the value returned -/

/-- A clamped value at or above 0 is its own natural number. -/
theorem clampInt_toNat {lo hi : Int} (h : 0 ≤ lo) (v : Int) : ((clampInt lo hi v).toNat : Int) = clampInt lo hi v := by
  have := clampInt_lower lo hi v
  omega

theorem storeNa_eq (k : Carrier) (v : Int) :
    storeCarrierParam .acquisitionCountLimit k v =
      some (if 1 ≤ v ∧ v ≤ 15 then .ok else .clamped, { k with control := { k.control with na := (clampInt 1 15 v).toNat } }) := by
  simp only [storeCarrierParam, storeNa, storeClamped_eq (show (1 : Int) ≤ 15 by decide)]; rfl

theorem storeTf_eq (k : Carrier) (v : Int) :
    storeCarrierParam .freshnessLimit k v =
      some (if 1 ≤ v ∧ v ≤ 255 then .ok else .clamped, { k with control := { k.control with tf := (clampInt 1 255 v).toNat } }) := by
  simp only [storeCarrierParam, storeTf, storeClamped_eq (show (1 : Int) ≤ 255 by decide)]; rfl

theorem storePb_eq (k : Carrier) (v : Int) :
    storeCarrierParam .blockPenalty k v =
      some (if 0 ≤ v ∧ v ≤ 255 then .ok else .clamped, { k with est := { k.est with pb := (clampInt 0 255 v).toNat } }) := by
  simp only [storeCarrierParam, storePb, storeClamped_eq (show (0 : Int) ≤ 255 by decide)]; rfl

theorem storeAd_eq (k : Carrier) (v : Int) :
    storeCarrierParam .fallShift k v =
      some (if 0 ≤ v ∧ v ≤ 7 then .ok else .clamped, { k with est := { k.est with ad := (clampInt 0 7 v).toNat } }) := by
  simp only [storeCarrierParam, storeAd, storeClamped_eq (show (0 : Int) ≤ 7 by decide)]; rfl

theorem storeAu_eq (k : Carrier) (v : Int) :
    storeCarrierParam .riseShift k v =
      some (if 0 ≤ v ∧ v ≤ 7 then .ok else .clamped, { k with est := { k.est with au := (clampInt 0 7 v).toNat } }) := by
  simp only [storeCarrierParam, storeAu, storeClamped_eq (show (0 : Int) ≤ 7 by decide)]; rfl

theorem storeBs_eq (k : Carrier) (v : Int) :
    storeCarrierParam .slopeShift k v =
      some (if 0 ≤ v ∧ v ≤ 7 then .ok else .clamped, { k with est := { k.est with bs := (clampInt 0 7 v).toNat } }) := by
  simp only [storeCarrierParam, storeBs, storeClamped_eq (show (0 : Int) ≤ 7 by decide)]; rfl

theorem storeLp_eq (k : Carrier) (v : Int) :
    storeCarrierParam .lookahead k v =
      some (if 0 ≤ v ∧ v ≤ 31 then .ok else .clamped, { k with est := { k.est with lp := (clampInt 0 31 v).toNat } }) := by
  simp only [storeCarrierParam, storeLp, storeClamped_eq (show (0 : Int) ≤ 31 by decide)]; rfl

theorem storeNu_eq (k : Carrier) (v : Int) :
    storeCarrierParam .upshiftDwell k v =
      some (if 1 ≤ v ∧ v ≤ 255 then .ok else .clamped, { k with req := { k.req with nu := (clampInt 1 255 v).toNat } }) := by
  simp only [storeCarrierParam, storeNu, storeClamped_eq (show (1 : Int) ≤ 255 by decide)]; rfl

theorem storeTh_eq (k : Carrier) (v : Int) :
    storeCarrierParam .holdOff k v =
      some (if 0 ≤ v ∧ v ≤ 65535 then .ok else .clamped, { k with req := { k.req with th := (clampInt 0 65535 v).toNat } }) := by
  simp only [storeCarrierParam, storeTh, storeClamped_eq (show (0 : Int) ≤ 65535 by decide)]; rfl

theorem storeGu_eq (k : Carrier) (v : Int) :
    storeCarrierParam .urgentSlope k v =
      some (if -2048 ≤ v ∧ v ≤ 0 then .ok else .clamped, { k with req := { k.req with gu := clampInt (-2048) 0 v } }) := by
  simp only [storeCarrierParam, storeGu, storeClamped_eq (show (-2048 : Int) ≤ 0 by decide)]; rfl

theorem storeTr_eq (k : Carrier) (v : Int) :
    storeCarrierParam .requestTime k v =
      some (if 4 ≤ v ∧ v ≤ 255 then .ok else .clamped, { k with req := { k.req with tr := (clampInt 4 255 v).toNat } }) := by
  simp only [storeCarrierParam, storeTr, storeClamped_eq (show (4 : Int) ≤ 255 by decide)]; rfl

theorem storeDs_eq (k : Carrier) (v : Int) :
    storeCarrierParam .stepDelay k v =
      some (if 0 ≤ v ∧ v ≤ 13 then .ok else .clamped, { k with sched := { k.sched with ds := (clampInt 0 13 v).toNat } }) := by
  simp only [storeCarrierParam, storeDs, storeClamped_eq (show (0 : Int) ≤ 13 by decide)]

theorem storeDw_eq (k : Carrier) (v : Int) :
    storeCarrierParam .sweepDwell k v =
      some (if 1 ≤ v ∧ v ≤ 65535 then .ok else .clamped, { k with test := { k.test with dw := (clampInt 1 65535 v).toNat } }) := by
  simp only [storeCarrierParam, storeDw, storeClamped_eq (show (1 : Int) ≤ 65535 by decide)]

theorem storeFixed_eq (k : Carrier) (v : Int) :
    storeCarrierParam .fixedProfile k v =
      some (if 0 ≤ v ∧ v ≤ 11 then .ok else .clamped, changeFixed k (clampInt 0 11 v).toNat) := by
  simp only [storeCarrierParam, storeFixed, storeClamped_eq (show (0 : Int) ≤ 11 by decide)]

theorem storeTxCeiling_eq (k : Carrier) (v : Int) :
    storeCarrierParam .txCeiling k v =
      some (if 0 ≤ v ∧ v ≤ 11 then .ok else .clamped, changeTxCeiling k (clampInt 0 11 v).toNat) := by
  simp only [storeCarrierParam, storeTxCeiling, storeClamped_eq (show (0 : Int) ≤ 11 by decide)]

end Sys2Proof.Machine
end

