-- ==== Sys2Proof/Laws/Searches.lean ====
section
/-! SUPPORT. What the searches and choices of the rules find: the first failing check of a ladder (R64), the first matching flow entry
(R108), the landing entry of a downshift (R71), the profile of a fill (R92) and the items of a frame's slots (R15). -/

namespace Sys2Proof.Machine

/-- No index fails when the condition holds at all of them. -/
theorem firstFailure_none (ok : Nat → Bool) (n k : Nat) (h : ∀ j, k ≤ j → j < k + n → ok j = true) : firstFailure ok n k = none := by
  induction n generalizing k with
  | zero => rfl
  | succ n ih =>
    simp only [firstFailure, h k (Nat.le_refl _) (by omega), if_true]
    exact ih (k+1) (fun j h1 h2 => h j (by omega) (by omega))

/-- The lowest index at which the condition fails is found. -/
theorem firstFailure_some (ok : Nat → Bool) (n k m : Nat) (hm : k ≤ m) (hm2 : m < k + n) (h1 : ok m = false) (h : ∀ j, k ≤ j → j < m → ok j = true) : firstFailure ok n k = some m := by
  induction n generalizing k with
  | zero => omega
  | succ n ih =>
    by_cases hk : k = m
    · subst hk; simp [firstFailure, h1]
    · simp only [firstFailure, h k (Nat.le_refl _) (by omega), if_true]
      exact ih (k+1) (by omega) (by omega) (fun j h1 h2 => h j (by omega) h2)

/-- The first matching entry is found with its index. -/
theorem firstHit_some (t : Option VlanTag) (l : List FlowEntry) (n i : Nat) (hi : i < l.length) (h1 : l[i].hits? t = true) (h2 : ∀ j (hj : j < l.length), j < i → l[j].hits? t = false) : firstHit t n l = some (n + i, l[i]) := by
  induction l generalizing n i with
  | nil => simp at hi
  | cons e l ih =>
    cases i with
    | zero => simp only [List.getElem_cons_zero] at h1; simp [firstHit, h1]
    | succ i =>
      have h0 : e.hits? t = false := h2 0 (by simp) (by omega)
      simp only [firstHit, h0, Bool.false_eq_true, if_false]
      rw [ih (n+1) i (by simpa using hi) (by simpa using h1) (fun j hj hji => by have := h2 (j+1) (by simpa using hj) (by omega); simpa using this)]
      simp; omega

/-- Nothing is found when no entry matches. -/
theorem firstHit_none (t : Option VlanTag) (l : List FlowEntry) (n : Nat) (h2 : ∀ e ∈ l, e.hits? t = false) : firstHit t n l = none := by
  induction l generalizing n with
  | nil => rfl
  | cons e l ih =>
    simp only [firstHit, h2 e (by simp), Bool.false_eq_true, if_false]
    exact ih _ (fun x hx => h2 x (by simp [hx]))

/-- The landing entry is the highest index below that Q holds, and the lower end where none does (R71). -/
theorem landing_spec (l : Ladder) (v : Int) (lo n : Nat) : lo ≤ landing l v lo n ∧ (0 < n → landing l v lo n < lo + n) ∧ ((l.holdAt (landing l v lo n) : Int) ≤ v ∨ landing l v lo n = lo) ∧ ∀ i, landing l v lo n < i → i < lo + n → v < (l.holdAt i : Int) := by
  induction n with
  | zero => simp [landing]; intro i h1 h2; omega
  | succ n ih =>
    simp only [landing]
    split
    · rename_i h
      exact ⟨by omega, by omega, .inl h, fun i h1 h2 => by omega⟩
    · rename_i h
      obtain ⟨a, b, c, d⟩ := ih
      refine ⟨a, fun _ => ?_, c, fun i h1 h2 => ?_⟩
      · rcases Nat.eq_zero_or_pos n with h0 | h0
        · subst h0; simp [landing]
        · have := b h0; omega
      · by_cases hi : i = lo + n
        · subst hi; omega
        · exact d i h1 (by omega)

/-- The fill rule in one equation: the scheduled switch at its SF, else the forced switch, else the outbound profile (R92). -/
theorem Scheduler.fillProfile_eq (d : Scheduler) (n : FrameNo) : d.fillProfile n =
    let atSf : Option Nat := match d.scheduled with | some w => if w.sf = n then some w.granted else none | none => none
    let p : Nat := match atSf with | some g => g | none => d.forced.getD d.outbound
    (p, { d with
              outbound := p
              forced := none
              scheduled := if atSf.isSome then none else d.scheduled
              scheduledMade := if atSf.isSome then bump d.scheduledMade else d.scheduledMade
              forcedMade := if atSf = none ∧ d.forced.isSome then bump d.forcedMade else d.forcedMade }) := by
  obtain ⟨ob, sc, fo, an, ds, a, b, c, e, f, g⟩ := d
  rcases sc with _ | w
  · rcases fo with _ | x <;> simp [Scheduler.fillProfile]
  · by_cases hw : w.sf = n
    · simp [Scheduler.fillProfile, hw]
    · rcases fo with _ | x <;> simp [Scheduler.fillProfile, hw]

/-- The items of the slots, one for each slot looked at, with the count of slots that fail the segment check (R15). -/
theorem slotItems_spec (readable : Bool) (first : SeqNo) (n p : Nat) (slots : List InboundSlot) :
   let ill (sl : InboundSlot) : Bool :=
        (readSegment sl.bytes).idle || decide ((readSegment sl.bytes).count = 0) || decide (64 < (readSegment sl.bytes).count)
   (slotItems readable first n p slots).1.length = min n slots.length ∧ (slotItems readable first n p slots).2 = ((slots.take n).filter (fun sl => readable && sl.valid && ill sl)).length ∧
   ∀ (i : Nat) (sl : InboundSlot), i < n → slots[i]? = some sl → (slotItems readable first n p slots).1[i]? = some
                  (if readable && sl.valid && !ill sl then .segment (readSegment sl.bytes)
                   else .loss (first + BitVec.ofNat 16 (p + i))) := by
  intro ill
  have hw : ∀ sl, (readSegment sl.bytes).wellFormed = !ill sl := by
    intro sl
    simp only [Segment.wellFormed, ill]
    generalize (readSegment sl.bytes).idle = a
    generalize (readSegment sl.bytes).count = b
    rcases a <;> simp
    by_cases h1 : b = 0
    · simp [h1]
    · by_cases h2 : 64 < b
      · simp [h2]
      · simp [h1, h2]
        omega
  induction n generalizing p slots with
  | zero => simp [slotItems]
  | succ n ih =>
    cases slots with
    | nil => simp [slotItems]
    | cons sl rest =>
      obtain ⟨i1, i2, i3⟩ := ih (p+1) rest
      simp only [slotItems, List.take_succ_cons]
      cases hr : (readable && sl.valid)
      · simp only [Bool.false_eq_true, if_false]
        refine ⟨by simp [i1], by simp [hr, i2], ?_⟩
        intro i s' hi hs
        cases i with
        | zero => simp at hs; subst hs; simp [hr]
        | succ i => 
          simp only [List.getElem?_cons_succ] at hs ⊢
          rw [i3 i s' (by omega) hs, show p + 1 + i = p + (i + 1) by omega]
      · simp only [if_true, hw]
        cases hl : ill sl
        · simp only [Bool.not_false, if_true]
          refine ⟨by simp [i1], by simp [hr, hl, i2], ?_⟩
          intro i s' hi hs
          cases i with
          | zero => simp at hs; subst hs; simp [hr, hl]
          | succ i => 
            simp only [List.getElem?_cons_succ] at hs ⊢
            rw [i3 i s' (by omega) hs, show p + 1 + i = p + (i + 1) by omega]
        · simp only [Bool.not_true, Bool.false_eq_true, if_false]
          refine ⟨by simp [i1], by simp [hr, hl, i2], ?_⟩
          intro i s' hi hs
          cases i with
          | zero => simp at hs; subst hs; simp [hr, hl]
          | succ i => 
            simp only [List.getElem?_cons_succ] at hs ⊢
            rw [i3 i s' (by omega) hs, show p + 1 + i = p + (i + 1) by omega]

end Sys2Proof.Machine
end

