-- ==== Sys2Proof/Laws/Starts.lean ====
section
/-! SUPPORT. What a grant and the fills before an outbound start change of each carrier's requests (R3, R121), said once. -/

namespace Sys2Proof.Machine

/-! ### The plan of the draws plays no part in a grant -/

theorem State.signalIf_withPlan (s : State) (b : Bool) (x : Latch) (l : List Nat) :
    State.signalIf { s with drawPlan := l } b x = { s.signalIf b x with drawPlan := l } := by cases b <;> rfl

theorem State.shedEvaluate_withPlan (s : State) (l : List Nat) :
    State.shedEvaluate { s with drawPlan := l } = { s.shedEvaluate with drawPlan := l } := by
  simp only [State.shedEvaluate]
  exact State.signalIf_withPlan { s with admission := s.admission.evaluate } _ _ l

theorem State.signalContribution_withPlan (s : State) (c : CarrierId) (l : List Nat) :
    State.signalContribution { s with drawPlan := l } c = { s.signalContribution c with drawPlan := l } := by
  have hcar : ∀ d, State.car { s with drawPlan := l } d = s.car d := fun _ => rfl
  simp only [State.signalContribution, hcar]
  split
  · rfl
  · split
    · rfl
    · exact State.shedEvaluate_withPlan
        { s with admission := { s.admission with contributions := s.admission.contributions.set c (s.car c).contribution } } l

/-- The plan of the draws plays no part in a grant. -/
theorem State.grantFill_withPlan (s : State) (l : List Nat) :
    State.grantFill { s with drawPlan := l } = { s.grantFill with drawPlan := l } := by
  have hg : State.grant { s with drawPlan := l } = s.grant := rfl
  simp only [State.grantFill, hg]
  rcases s.grant with _ | ⟨c, n⟩
  · rfl
  · simp only [State.openFill]
    have hcar : ∀ d, State.car { s with drawPlan := l } d = s.car d := fun _ => rfl
    simp only [hcar]
    split
    · rfl
    · have hb : State.beginFill { s with drawPlan := l } c n = { s.beginFill c n with drawPlan := l } := by
        simp only [State.beginFill, hcar]
        have : State.setCar { s with drawPlan := l } c ((s.car c).chooseProfile n).dropRequest =
            { s.setCar c ((s.car c).chooseProfile n).dropRequest with drawPlan := l } := rfl
        rw [this, State.signalIf_withPlan, State.signalContribution_withPlan]
      rw [hb]
      split <;> rfl

/-- A grant keeps the plan of the draws. -/
theorem State.grantFill_drawPlan (s : State) : s.grantFill.drawPlan = s.drawPlan := by
  simp only [State.grantFill]
  split
  · simp only [State.openFill]
    split
    · rfl
    · split <;> simp [State.beginFill, State.handRecord]
  · rfl

/-- A granted request leaves the standing requests, and every other stands as it did (R121). -/
theorem State.openFill_request (s : State) (c d : CarrierId) (n : FrameNo) :
    ((s.openFill c n).car d).dist.request = if d = c then none else (s.car d).dist.request := by
  simp only [State.openFill]
  have hb : ∀ d, ((s.beginFill c n).car d).dist.request = if d = c then none else (s.car d).dist.request := by
    intro d
    simp only [State.beginFill]
    have : ((((s.setCar c ((s.car c).chooseProfile n).dropRequest).signalIf (s.car c).sweepEnds .sweepDone).signalContribution
        c).car d) = (s.setCar c ((s.car c).chooseProfile n).dropRequest).car d := by
      refine State.car_congr ?_ d; simp
    rw [this, State.car_setCar]
    split <;> rfl
  have hh : ∀ (kind : FillKind) (p : Nat) (w : Filling),
      (((s.beginFill c n).handRecord kind c n p w).car d).dist.request = if d = c then none else (s.car d).dist.request := by
    intro kind p w
    rw [State.handRecord, State.car_updCar]
    split
    · rename_i hdc; subst hdc
      have := hb d
      rw [if_pos rfl] at this
      show (Distributor.counted _ _ _ _).request = _
      rw [Distributor.counted_request]; exact this
    · rename_i hdc; have := hb d; rwa [if_neg hdc] at this
  split
  · rw [State.car_setCar]; split <;> rfl
  · split
    · exact hb d
    · exact hh _ _ _
    · exact hh _ _ _

/-- A whole fill takes the granted request alone. -/
theorem State.fillNext_request {s : State} {c : CarrierId} {n : FrameNo} (hg : s.grant = some (c, n)) (d : CarrierId) :
    (s.fillNext.car d).dist.request = if d = c then none else (s.car d).dist.request := by
  simp only [State.fillNext, State.car_completeFill_request, State.grantFill, State.grant_completeFill, hg]
  rw [State.openFill_request]; simp

/-! ### The requests that stand -/

/-- The number of standing fill requests. -/
def State.standing (s : State) : Nat :=
  (if (s.car 0).dist.request.isSome then 1 else 0) + (if (s.car 1).dist.request.isSome then 1 else 0) +
    (if (s.car 2).dist.request.isSome then 1 else 0) + (if (s.car 3).dist.request.isSome then 1 else 0)

/-- With a request standing, a whole fill leaves one request fewer. -/
theorem State.standing_fillNext {s : State} {c : CarrierId} (h : (s.car c).dist.request ≠ none) :
    s.fillNext.standing + 1 = s.standing := by
  rcases hg : s.grant with _ | ⟨c', n⟩
  · exfalso
    simp only [State.grant] at hg
    split at hg <;> try cases hg
    rename_i h0 h1 h2 h3
    match c, h with
    | 0, h => exact h h0
    | 1, h => exact h h1
    | 2, h => exact h h2
    | 3, h => exact h h3
  · have hs := (State.grant_stands hg).1
    simp only [State.standing, State.fillNext_request hg]
    match c', hs with
    | 0, hs => simp [hs]; omega
    | 1, hs => simp [hs]; omega
    | 2, hs => simp [hs]; omega
    | 3, hs => simp [hs]

/-- As many fills as requests stand serve every request. -/
theorem State.serveBefore_stable (c : CarrierId) (n : Nat) :
    ∀ s : State, s.standing ≤ n → s.serveBefore c (n + 1) = s.serveBefore c n := by
  induction n with
  | zero =>
    intro s h
    have : (s.car c).dist.request = none := by
      by_contra hc
      have := State.standing_fillNext hc; omega
    rw [State.serveBefore_of_none this, State.serveBefore_of_none this]
  | succ n ih =>
    intro s h
    rcases hr : (s.car c).dist.request with _ | x
    · rw [State.serveBefore_of_none hr, State.serveBefore_of_none hr]
    · have hm := State.standing_fillNext (s := s) (c := c) (by rw [hr]; simp)
      have : ∀ m, s.serveBefore c (m + 1) = s.fillNext.serveBefore c m := by
        intro m; simp only [State.serveBefore, hr, Option.isSome_some, if_true]
      rw [this (n + 1), this n]
      exact ih _ (by omega)

/-- A fill leaves every Requester as it stands. -/
theorem State.openFill_req (s : State) (c d : CarrierId) (n : FrameNo) : ((s.openFill c n).car d).req = (s.car d).req := by
  simp only [State.openFill]
  have hb : ∀ d, ((s.beginFill c n).car d).req = (s.car d).req := by
    intro d
    simp only [State.beginFill]
    have : ((((s.setCar c ((s.car c).chooseProfile n).dropRequest).signalIf (s.car c).sweepEnds .sweepDone).signalContribution
        c).car d) = (s.setCar c ((s.car c).chooseProfile n).dropRequest).car d := by
      refine State.car_congr ?_ d; simp
    rw [this, State.car_setCar]
    split
    · rename_i h
      subst h
      simp only [Carrier.dropRequest, Carrier.chooseProfile, Carrier.sweepFill]
      repeat' (first | rfl | split)
    · rfl
  have hh : ∀ (kind : FillKind) (p : Nat) (w : Filling),
      (((s.beginFill c n).handRecord kind c n p w).car d).req = (s.car d).req := by
    intro kind p w
    rw [State.handRecord, State.car_updCar]
    split
    · rename_i hdc; subst hdc; exact hb _
    · exact hb d
  split
  · rw [State.car_setCar]; split
    · rename_i h; subst h; rfl
    · rfl
  · split
    · exact hb d
    · exact hh _ _ _
    · exact hh _ _ _

/-- The fills before a start leave every Requester as it stands. -/
theorem State.beforeStart_req (s : State) (c d : CarrierId) : ((s.beforeStart c).car d).req = (s.car d).req := by
  have hg : ∀ s : State, (s.grantFill.car d).req = (s.car d).req := by
    intro s
    simp only [State.grantFill]
    split
    · exact State.openFill_req _ _ _ _
    · rfl
  have : ∀ n (s : State), ((s.serveBefore c n).car d).req = (s.car d).req := by
    intro n
    induction n with
    | zero => intro s; rfl
    | succ n ih =>
      intro s
      simp only [State.serveBefore]
      split
      · rw [ih]; simp [State.fillNext, hg]
      · rfl
  rw [State.beforeStart, this]; simp

/-- The fills before a start leave the pins. -/
theorem State.beforeStart_pins (s : State) (c : CarrierId) : (s.beforeStart c).pins = s.pins := by
  have hg : ∀ s : State, s.grantFill.pins = s.pins := by
    intro s
    simp only [State.grantFill]
    split
    · simp only [State.openFill]
      split
      · rfl
      · split <;> simp [State.beginFill, State.handRecord]
    · rfl
  have : ∀ n (s : State), (s.serveBefore c n).pins = s.pins := by
    intro n
    induction n with
    | zero => intro s; rfl
    | succ n ih =>
      intro s
      simp only [State.serveBefore]
      split
      · rw [ih]; simp [State.fillNext, hg]
      · rfl
  rw [State.beforeStart, this]; simp

end Sys2Proof.Machine
end

