-- ==== Sys2Proof/Laws/Status.lean ====
section
/-! SUPPORT. The status report has one length whatever the state (R175, section 13.4). -/

namespace Sys2Proof.Machine

@[simp] theorem fnBytes_length (n : Option FrameNo) : (fnBytes n).length = 2 := by cases n <;> rfl

@[simp] theorem issuedByte_length (r : Option Request) : (issuedByte r).length = 1 := by cases r <;> rfl

@[simp] theorem maskBytes_length (m : BitVec 21) : (maskBytes m).length = 4 := rfl

@[simp] theorem outstandingBytes_length (st : ReqState) : (outstandingBytes st).length = 3 := by cases st <;> rfl

@[simp] theorem pendingBytes_length (st : ReqState) : (pendingBytes st).length = 3 := by cases st <;> rfl

@[simp] theorem scheduledBytes_length (w : Option Scheduled) : (scheduledBytes w).length = 4 := by cases w <;> rfl

@[simp] theorem forcedBytes_length (p : Option Nat) : (forcedBytes p).length = 1 := by cases p <;> rfl

@[simp] theorem answerBytes_length (a : Option AnswerRecord) : (answerBytes a).length = 5 := by
  rcases a with _ | ⟨t, _ | _ | _⟩ <;> rfl

@[simp] theorem cursorBytes_length (cu : Option Cursor) : (cursorBytes cu).length = 3 := by cases cu <;> rfl

@[simp] theorem contextBytes_length (cx : Option Reassembly) : (contextBytes cx).length = 3 := by cases cx <;> rfl

@[simp] theorem counterBytes_length (l : List Nat) : (counterBytes l).length = 4 * l.length := by
  induction l with
  | nil => rfl
  | cons a l ih =>
    simp only [counterBytes, List.flatMap_cons, List.length_append, be32_length, List.length_cons] at ih ⊢
    omega

@[simp] theorem carrierBytes_length (k : Carrier) : (carrierBytes k).length = 189 := by
  simp [carrierBytes, controlGroup, requesterGroup, schedulerGroup, controlCounters, laneCounters, requesterCounters,
    schedulerCounters, distributorCounters]

@[simp] theorem trafficBytes_length (s : State) : (trafficBytes s).length = 149 := by
  simp [trafficBytes, classCounterBytes, siteCounters, Quad.toList]

@[simp] theorem reseqBytes_length (r : Reseq) : (reseqBytes r).length = 90 := by
  simp [reseqBytes, reseqCounters]

@[simp] theorem historyBytes_length (y : History) : (historyBytes y).length = 11 := by simp [historyBytes]

@[simp] theorem agentBytes_length (a : Agent) : (agentBytes a).length = 34 := by simp [agentBytes, agentCounters]

/-- The fixed length of the report. -/
theorem statusReport_length (s : State) : (statusReport s).length = 1056 := by
  simp [statusReport, identificationBytes, alertBytes, Quad.toList]

/-- A history record is 16 bytes (section 13.5). -/
@[simp] theorem recordBytes_length (first : Bool) (r : Record) : (recordBytes first r).length = 16 := by
  simp [recordBytes]

/-- Its first byte holds VALID and FIRST (section 13.5). -/
theorem recordBytes_marks (first : Bool) (r : Record) :
    byteAt (recordBytes first r) 0 = BitVec.ofNat 8 (128 + markBit first 6) := by
  simp [recordBytes, byteAt, byteOf]

end Sys2Proof.Machine
end

