-- ==== Sys2Proof/Laws/Tables.lean ====
section
/-! SUPPORT. What storing consecutive entries of a table does, position by position (R43, R60, R109, R111, R113), and the lengths of the
readable layouts (section 13.3). -/

namespace Sys2Proof.Machine

/-- What a list of values stored from a start gives position `i`. -/
def givenAt {α : Type} (start : Nat) (l : List α) (i : Nat) : Option α := if start ≤ i then l[i - start]? else none

theorem givenAt_nil {α : Type} (start i : Nat) : givenAt start ([] : List α) i = none := by
  simp only [givenAt]; split <;> rfl

theorem givenAt_cons {α : Type} (start : Nat) (x : α) (l : List α) (i : Nat) :
    givenAt start (x :: l) i = if i = start then some x else givenAt (start + 1) l i := by
  simp only [givenAt]
  by_cases h : i = start
  · simp [h]
  · by_cases h2 : start ≤ i
    · obtain ⟨d, rfl⟩ : ∃ d, i = start + 1 + d := ⟨i - (start + 1), by omega⟩
      simp [h, show start ≤ start + 1 + d by omega, show start + 1 + d - start = d + 1 by omega]
    · simp [h, h2, show ¬ start + 1 ≤ i by omega]

theorem givenAt_map {α β : Type} (f : α → β) (start : Nat) (l : List α) (i : Nat) :
    givenAt start (l.map f) i = (givenAt start l i).map f := by
  simp only [givenAt]; split <;> simp

/-- A table after values were stored from a start: each position holds what was given for it, and otherwise what it held. -/
theorem storeFrom_get {α : Type} {n : Nat} (v : Vector α n) (start : Nat) (l : List α) (i : Fin n) :
    (storeFrom v start l)[i] = (givenAt start l i.val).getD v[i] := by
  induction l generalizing v start with
  | nil => simp [storeFrom, givenAt_nil]
  | cons x l ih =>
    simp only [storeFrom, ih, givenAt_cons]
    by_cases h : i.val = start
    · subst h
      have hn : givenAt (i.val + 1) l i.val = none := by simp [givenAt]
      simp [hn]
    · simp only [h, if_false]
      congr 1
      simp only [Fin.getElem_fin]
      exact Vector.getElem_setIfInBounds_ne i.isLt (fun e => h e.symm)

/-- Four positions after numbers were stored from a start. -/
theorem storeQuad_get (q : Quad Nat) (start : Nat) (l : List Nat) (i : Fin 4) :
    (storeQuad q start l).get i = (givenAt start l i.val).getD (q.get i) := by
  induction l generalizing q start with
  | nil => simp [storeQuad, givenAt_nil]
  | cons x l ih =>
    simp only [storeQuad, ih, givenAt_cons]
    by_cases h : i.val = start
    · subst h
      have hn : givenAt (i.val + 1) l i.val = none := by simp [givenAt]
      simp [hn]
    · simp only [h, if_false]
      congr 1
      split
      · exact Quad.get_set_ne _ _ (fun e => h (by rw [e]))
      · rfl

/-- The SHED table's values clamped position by position. -/
theorem clampShed_given (start : Nat) (l : List (BitVec 16)) (i : Nat) :
    givenAt start (clampShed start l) i = (givenAt start l i).map (fun v => min v.toNat (shedLimit i)) := by
  induction l generalizing start with
  | nil => simp [clampShed, givenAt_nil]
  | cons v l ih =>
    simp only [clampShed, givenAt_cons, ih]
    by_cases h : i = start
    · simp [h]
    · simp [h]

/-- A SHED write is CLAMPED exactly when a value was above its position's range. -/
theorem shedClamped_iff (start : Nat) (l : List (BitVec 16)) :
    shedClamped start l = true ↔ ∃ i v, givenAt start l i = some v ∧ shedLimit i < v.toNat := by
  induction l generalizing start with
  | nil => simp [shedClamped, givenAt_nil]
  | cons v l ih =>
    simp only [shedClamped, Bool.or_eq_true, decide_eq_true_eq, ih, givenAt_cons]
    constructor
    · rintro (h | ⟨i, w, h1, h2⟩)
      · exact ⟨start, v, by simp, h⟩
      · refine ⟨i, w, ?_, h2⟩
        have : i ≠ start := by rintro rfl; simp [givenAt] at h1
        simp [this, h1]
    · rintro ⟨i, w, h1, h2⟩
      by_cases h : i = start
      · subst h; simp at h1; subst h1; exact .inl h2
      · simp [h] at h1; exact .inr ⟨i, w, h1, h2⟩

end Sys2Proof.Machine
end

