-- ==== Sys2Proof/Laws/Window.lean ====
section
/-! SUPPORT. The window store: reading after each of its operations, its form kept by each (R133), and what a delivery can do (R141). -/

namespace Sys2Proof.Machine

/-! ### The form of the store -/

theorem windowOk_iff (w : List (Nat × Slot)) :
    windowOk w = true ↔ w.Pairwise (fun a b => a.1 < b.1) ∧ ∀ p ∈ w, p.1 < 4096 := by
  simp only [windowOk, Bool.and_eq_true, decide_eq_true_eq, List.all_eq_true, Config.windowSize]
  exact Iff.and .rfl (forall₂_congr fun _ _ => decide_eq_true_iff)

@[simp] theorem windowOk_nil : windowOk [] = true := rfl

theorem windowOk_cons {p : Nat × Slot} {w : List (Nat × Slot)} :
    windowOk (p :: w) = true ↔ (∀ a ∈ w, p.1 < a.1) ∧ p.1 < 4096 ∧ windowOk w = true := by
  rw [windowOk_iff, windowOk_iff, List.pairwise_cons]
  constructor
  · rintro ⟨⟨h1, h2⟩, h3⟩
    exact ⟨h1, h3 p List.mem_cons_self, h2, fun a ha => h3 a (List.mem_cons_of_mem _ ha)⟩
  · rintro ⟨h1, h2, h3, h4⟩
    refine ⟨⟨h1, h3⟩, fun a ha => ?_⟩
    rcases List.mem_cons.mp ha with rfl | ha
    · exact h2
    · exact h4 a ha

/-! ### Reading a position -/

@[simp] theorem windowAt_nil (j : Nat) : windowAt [] j = none := rfl

theorem windowAt_cons (p : Nat × Slot) (w : List (Nat × Slot)) (j : Nat) :
    windowAt (p :: w) j = if p.1 = j then some p.2 else windowAt w j := by
  by_cases h : p.1 = j <;> simp [windowAt, h]

/-- Nothing stands at a position that lies below every occupied one. -/
theorem windowAt_below {w : List (Nat × Slot)} {j : Nat} (h : ∀ a ∈ w, j < a.1) : windowAt w j = none := by
  induction w with
  | nil => rfl
  | cons p w ih =>
    rw [windowAt_cons, if_neg (by have := h p List.mem_cons_self; omega)]
    exact ih fun a ha => h a (List.mem_cons_of_mem _ ha)

/-- An occupied position is listed. -/
theorem windowAt_mem {w : List (Nat × Slot)} {j : Nat} {x : Slot} (h : windowAt w j = some x) : (j, x) ∈ w := by
  induction w with
  | nil => cases h
  | cons p w ih =>
    rw [windowAt_cons] at h
    split at h
    · rename_i e
      obtain ⟨a, b⟩ := p
      simp only [Option.some.injEq] at h e
      subst h; subst e; exact List.mem_cons_self
    · exact List.mem_cons_of_mem _ (ih h)

/-- A listed position is occupied. -/
theorem windowAt_of_mem {w : List (Nat × Slot)} (hw : windowOk w = true) {p : Nat × Slot} (h : p ∈ w) : windowAt w p.1 = some p.2 := by
  induction w with
  | nil => cases h
  | cons q w ih =>
    rw [windowOk_cons] at hw
    rw [windowAt_cons]
    rcases List.mem_cons.mp h with rfl | h'
    · simp
    · rw [if_neg (by have := hw.1 p h'; omega)]
      exact ih hw.2.2 h'

/-! ### Putting -/

theorem windowPut_mem {d : Nat} {x : Slot} {w : List (Nat × Slot)} {p : Nat × Slot} (h : p ∈ windowPut d x w) : p = (d, x) ∨ p ∈ w := by
  induction w with
  | nil => simpa [windowPut] using h
  | cons q w ih =>
    simp only [windowPut] at h
    split at h
    · rcases List.mem_cons.mp h with h | h
      · exact .inl h
      · exact .inr h
    · rcases List.mem_cons.mp h with h | h
      · exact .inr (by rw [h]; exact List.mem_cons_self)
      · rcases ih h with h | h
        · exact .inl h
        · exact .inr (List.mem_cons_of_mem _ h)

/-- Putting something into an empty position below 4,096 keeps the form of the store. -/
theorem windowPut_ok {w : List (Nat × Slot)} {d : Nat} {x : Slot} (hw : windowOk w = true) (hd : d < 4096)
    (he : windowAt w d = none) : windowOk (windowPut d x w) = true := by
  induction w with
  | nil => simp [windowPut, windowOk_cons, hd]
  | cons q w ih =>
    obtain ⟨h1, h2, h3⟩ := windowOk_cons.mp hw
    rw [windowAt_cons] at he
    split at he
    · cases he
    · rename_i hne
      simp only [windowPut]
      split
      · rename_i hlt
        refine windowOk_cons.mpr ⟨fun a ha => ?_, hd, hw⟩
        rcases List.mem_cons.mp ha with rfl | ha
        · exact hlt
        · have := h1 a ha
          show d < a.1
          omega
      · refine windowOk_cons.mpr ⟨fun a ha => ?_, h2, ih h3 he⟩
        rcases windowPut_mem ha with rfl | ha
        · show q.1 < d
          omega
        · exact h1 a ha

/-- Reading after putting. -/
theorem windowAt_put {w : List (Nat × Slot)} {d : Nat} (x : Slot) (he : windowAt w d = none) (j : Nat) :
    windowAt (windowPut d x w) j = if j = d then some x else windowAt w j := by
  induction w with
  | nil => simp [windowPut, windowAt_cons, eq_comm]
  | cons q w ih =>
    rw [windowAt_cons] at he
    split at he
    · cases he
    · rename_i hne
      simp only [windowPut]
      split
      · rw [windowAt_cons]
        simp [eq_comm]
      · rw [windowAt_cons, windowAt_cons, ih he]
        by_cases hj : j = d
        · subst hj; simp [hne]
        · simp [hj]

/-! ### Taking position 0 -/

theorem windowShift_ok {w : List (Nat × Slot)} (hw : windowOk w = true) (h0 : ∀ a ∈ w, 0 < a.1) : windowOk (windowShift w) = true := by
  induction w with
  | nil => rfl
  | cons q w ih =>
    obtain ⟨h1, h2, h3⟩ := windowOk_cons.mp hw
    refine windowOk_cons.mpr ⟨fun a ha => ?_, ?_, ih h3 fun a ha => h0 a (List.mem_cons_of_mem _ ha)⟩
    · obtain ⟨b, hb, rfl⟩ := List.mem_map.mp ha
      have := h1 b hb
      have := h0 q List.mem_cons_self
      show q.1 - 1 < b.1 - 1
      omega
    · show q.1 - 1 < 4096
      omega

theorem windowAt_shift {w : List (Nat × Slot)} (h0 : ∀ a ∈ w, 0 < a.1) (j : Nat) : windowAt (windowShift w) j = windowAt w (j + 1) := by
  induction w with
  | nil => rfl
  | cons q w ih =>
    have hq := h0 q List.mem_cons_self
    show windowAt ((q.1 - 1, q.2) :: windowShift w) j = _
    rw [windowAt_cons, windowAt_cons, ih fun a ha => h0 a (List.mem_cons_of_mem _ ha)]
    by_cases h : q.1 = j + 1
    · rw [if_pos h, if_pos (by show q.1 - 1 = j; omega)]
    · rw [if_neg h, if_neg (by show ¬ q.1 - 1 = j; omega)]

/-- A store whose position 0 is occupied lists it first. -/
theorem windowAt_zero {w : List (Nat × Slot)} (hw : windowOk w = true) {x : Slot} (h : windowAt w 0 = some x) :
    ∃ rest, w = (0, x) :: rest ∧ ∀ a ∈ rest, 0 < a.1 := by
  cases w with
  | nil => cases h
  | cons q w =>
    obtain ⟨h1, -, -⟩ := windowOk_cons.mp hw
    have hm := windowAt_mem h
    rcases List.mem_cons.mp hm with e | hm
    · subst e; exact ⟨w, rfl, h1⟩
    · have := h1 _ hm
      exact absurd this (by simp)

/-- A store whose position 0 is empty does not begin with it. -/
theorem windowAt_zero_none {w : List (Nat × Slot)} (h : windowAt w 0 = none) : ∀ x rest, w ≠ (0, x) :: rest := by
  rintro x rest rfl
  simp [windowAt_cons] at h

/-! ### Lost marks before the first occupied position -/

theorem windowAt_lostRun (n : Nat) (w : List (Nat × Slot)) (j : Nat) :
    windowAt (lostRun n ++ w) j = if j < n then some .lost else windowAt w j := by
  have key : ∀ (m n : Nat), windowAt ((List.range' m n).map (fun i => (i, Slot.lost)) ++ w) j =
      if m ≤ j ∧ j < m + n then some .lost else windowAt w j := by
    intro m n
    induction n generalizing m with
    | zero => rw [if_neg (by omega)]; rfl
    | succ n ih =>
      rw [List.range'_succ, List.map_cons, List.cons_append, windowAt_cons, ih]
      by_cases h1 : m = j
      · subst h1; simp
      · rw [if_neg h1]
        by_cases h2 : m ≤ j ∧ j < m + (n + 1)
        · rw [if_pos h2, if_pos (by omega)]
        · rw [if_neg h2, if_neg (by omega)]
  have := key 0 n
  rw [← List.range_eq_range'] at this
  rw [lostRun, this]
  simp

theorem windowOk_lostRun {w : List (Nat × Slot)} (hw : windowOk w = true) : windowOk (lostRun (gapLength w) ++ w) = true := by
  cases w with
  | nil => rfl
  | cons q w =>
    obtain ⟨h1, h2, -⟩ := windowOk_cons.mp hw
    have key : ∀ (m n : Nat), m + n = q.1 → windowOk ((List.range' m n).map (fun i => (i, Slot.lost)) ++ (q :: w)) = true := by
      intro m n
      induction n generalizing m with
      | zero => intro _; exact hw
      | succ n ih =>
        intro hmn
        rw [List.range'_succ, List.map_cons, List.cons_append]
        refine windowOk_cons.mpr ⟨fun a ha => ?_, ?_, ih (m + 1) (by omega)⟩
        · rcases List.mem_append.mp ha with ha | ha
          · obtain ⟨i, hi, rfl⟩ := List.mem_map.mp ha
            have := List.mem_range'.mp hi
            obtain ⟨k, hk, rfl⟩ := this
            show m < m + 1 + 1 * k
            omega
          · rcases List.mem_cons.mp ha with rfl | ha
            · show m < a.1
              omega
            · have := h1 a ha
              show m < a.1
              omega
        · show m < 4096
          omega
    have := key 0 q.1 (by omega)
    rw [← List.range_eq_range'] at this
    exact this

/-- The gap reaches to the first occupied position. -/
theorem gapLength_eq {w : List (Nat × Slot)} (hw : windowOk w = true) {n : Nat} {x : Slot} (hn : windowAt w n = some x)
    (hb : ∀ j, j < n → windowAt w j = none) : gapLength w = n := by
  cases w with
  | nil => cases hn
  | cons q w =>
    obtain ⟨h1, -, -⟩ := windowOk_cons.mp hw
    show q.1 = n
    rcases List.mem_cons.mp (windowAt_mem hn) with e | hm
    · rw [← e]
    · have hlt : q.1 < n := h1 _ hm
      have := hb q.1 hlt
      rw [windowAt_cons, if_pos rfl] at this
      cases this

theorem gapStands_iff {w : List (Nat × Slot)} (h : windowAt w 0 = none) : gapStands w = true ↔ w ≠ [] := by
  cases w with
  | nil => simp [gapStands]
  | cons q w =>
    have : q.1 ≠ 0 := by
      intro e
      rw [windowAt_cons, if_pos e] at h
      cases h
    simp [gapStands, this]

/-! ### Delivery -/

/-- What reassembly leaves of the Resequencer: its window store, E, gap timer and settings. -/
structure Reseq.SameWindow (r t : Reseq) : Prop where
  window : t.window = r.window
  expected : t.expected = r.expected
  gap : t.gap = r.gap
  tg : t.tg = r.tg
  k : t.k = r.k
  synced : t.synced = r.synced

theorem Reseq.SameWindow.trans {r t u : Reseq} (h : r.SameWindow t) (h' : t.SameWindow u) : r.SameWindow u :=
  ⟨h'.window.trans h.window, h'.expected.trans h.expected, h'.gap.trans h.gap, h'.tg.trans h.tg, h'.k.trans h.k,
    h'.synced.trans h.synced⟩

theorem Reseq.SameWindow.after {r t u : Reseq} (h' : t.SameWindow u) (h : r.SameWindow t) : r.SameWindow u := h.trans h'

theorem State.frameComplete_window (s : State) (f : Frame) : s.reseq.SameWindow (s.frameComplete f).reseq := by
  simp only [State.frameComplete, State.enqueue]
  repeat (first | exact ⟨rfl, rfl, rfl, rfl, rfl, rfl⟩ | split)

theorem State.beginFrame_window (s : State) (g : Segment) : s.reseq.SameWindow (s.beginFrame g).reseq := by
  simp only [State.beginFrame]
  split
  · exact Reseq.SameWindow.after (State.frameComplete_window _ _) ⟨rfl, rfl, rfl, rfl, rfl, rfl⟩
  · exact ⟨rfl, rfl, rfl, rfl, rfl, rfl⟩

theorem State.reassemble_window (s : State) (g : Segment) : s.reseq.SameWindow (s.reassemble g).reseq := by
  simp only [State.reassemble]
  split
  · split
    · exact Reseq.SameWindow.after (State.beginFrame_window _ _) ⟨rfl, rfl, rfl, rfl, rfl, rfl⟩
    · split
      · split
        · exact Reseq.SameWindow.after (State.frameComplete_window _ _) ⟨rfl, rfl, rfl, rfl, rfl, rfl⟩
        · exact ⟨rfl, rfl, rfl, rfl, rfl, rfl⟩
      · exact ⟨rfl, rfl, rfl, rfl, rfl, rfl⟩
  · split
    · exact s.beginFrame_window g
    · exact ⟨rfl, rfl, rfl, rfl, rfl, rfl⟩

theorem State.handOver_window (s : State) (x : Slot) : s.reseq.SameWindow (s.handOver x).reseq := by
  cases x with
  | segment g => exact s.reassemble_window g
  | lost =>
    simp only [State.handOver, State.losePosition]
    split <;> exact ⟨rfl, rfl, rfl, rfl, rfl, rfl⟩

/-- One position taken, and the rest of the run. -/
theorem State.deliver_cons {s : State} {x : Slot} {rest : List (Nat × Slot)} (h : s.reseq.window = (0, x) :: rest) :
    s.deliver = ((s.onReseq (fun r => r.advance rest)).handOver x).deliver := by
  have hw : (((s.onReseq (fun r => r.advance rest)).handOver x).reseq.window).length = rest.length := by
    rw [(State.handOver_window _ x).window]
    simp [Reseq.advance, windowShift]
  rw [State.deliver, h, List.length_cons, State.deliverUpTo, h, State.deliver, hw]
  rfl

/-- At an empty position 0 delivery stops. -/
theorem State.deliver_stop {s : State} (h : ∀ x rest, s.reseq.window ≠ (0, x) :: rest) : s.deliver = s := by
  rw [State.deliver]
  cases hn : s.reseq.window.length with
  | zero => rfl
  | succ n =>
    rw [State.deliverUpTo]
    split
    · rename_i x rest he
      exact absurd he (h x rest)
    · rfl

/-- After a delivery the store keeps its form and position 0 is empty; Tg and K stand. -/
theorem State.deliver_window {s : State} (hw : windowOk s.reseq.window = true) :
    windowOk s.deliver.reseq.window = true ∧ windowAt s.deliver.reseq.window 0 = none ∧ s.deliver.reseq.gap = s.reseq.gap ∧
      s.deliver.reseq.tg = s.reseq.tg ∧ s.deliver.reseq.k = s.reseq.k := by
  generalize hn : s.reseq.window.length = n
  induction n generalizing s with
  | zero =>
    have : s.reseq.window = [] := List.length_eq_zero_iff.mp hn
    rw [State.deliver_stop (by intro x rest; rw [this]; simp)]
    exact ⟨hw, by rw [this]; rfl, rfl, rfl, rfl⟩
  | succ n ih =>
    cases h0 : windowAt s.reseq.window 0 with
    | none =>
      rw [State.deliver_stop (windowAt_zero_none h0)]
      exact ⟨hw, h0, rfl, rfl, rfl⟩
    | some x =>
      obtain ⟨rest, e, hpos⟩ := windowAt_zero hw h0
      have hs := State.handOver_window (s.onReseq (fun r => r.advance rest)) x
      have hok : windowOk (windowShift rest) = true := by
        rw [e] at hw
        exact windowShift_ok (windowOk_cons.mp hw).2.2 hpos
      rw [State.deliver_cons e]
      have := ih (s := (s.onReseq (fun r => r.advance rest)).handOver x) (by rw [hs.window]; exact hok)
        (by rw [hs.window]; rw [e] at hn; simpa [Reseq.advance, windowShift] using hn)
      exact ⟨this.1, this.2.1, this.2.2.1.trans hs.gap, this.2.2.2.1.trans hs.tg, this.2.2.2.2.trans hs.k⟩

/-- The re-examined gap timer touches the timer alone. -/
theorem Reseq.reexamine_window (r : Reseq) (b : SeqNo) :
    (r.reexamine b).window = r.window ∧ (r.reexamine b).tg = r.tg ∧ (r.reexamine b).k = r.k := by
  simp only [Reseq.reexamine]
  repeat (first | exact ⟨rfl, rfl, rfl⟩ | split)

theorem State.deliverFrom_window {s : State} (hw : windowOk s.reseq.window = true) (b : SeqNo) :
    windowOk (s.deliverFrom b).reseq.window = true ∧ (s.deliverFrom b).reseq.tg = s.reseq.tg ∧
      (s.deliverFrom b).reseq.k = s.reseq.k := by
  obtain ⟨h1, -, -, h2, h3⟩ := State.deliver_window hw
  have hr := Reseq.reexamine_window s.deliver.reseq b
  exact ⟨by show windowOk (s.deliver.reseq.reexamine b).window = true; rw [hr.1]; exact h1, hr.2.1.trans h2, hr.2.2.trans h3⟩

end Sys2Proof.Machine
end

