-- ==== Sys2Proof/WellFormed.lean ====
section
/-! DEFINITION. Well-formed commands: what a modem, a site switch and a management frame can hand over at all (section 1.6, R101,
section 13.3). The meanings are total and do not need it. -/

namespace Sys2Proof

/-- A segment slot has 68 bytes (section 1.4). -/
def InboundSlot.wf (sl : InboundSlot) : Bool := decide (sl.bytes.length = 68)

/-- The header is 14 bytes and present exactly when the lock flag is set (section 1.6). -/
def InboundFrame.headerWf (f : InboundFrame) : Bool :=
  match f.header with
  | some l => f.lock && decide (l.length = 14)
  | none => !f.lock

/-- An inbound frame as section 1.6 lists its items: x up to 1023, b up to 63, at most 1023 slots. -/
def InboundFrame.wf (f : InboundFrame) : Bool :=
  f.headerWf && decide (f.x ≤ 1023) && decide (f.b ≤ 63) && decide (f.slots.length ≤ 1023) && f.slots.all InboundSlot.wf

/-- The longest argument of a command: a frame of 9,600 bytes less its 14 bytes of addresses and type, the body header of 3, the
command's own 4 and the frame check sequence (R101, section 13.3). -/
def argumentLimit : Nat := Config.maxFrame - 14 - 3 - 4 - 4

/-- A TABLE_WRITE of `n` entries of `w` bytes fits in one command. -/
def writeFits (w n : Nat) : Bool := decide (3 + w * n ≤ argumentLimit)

/-- A complete Ethernet frame holds its two addresses, its type field and its frame check sequence. -/
def IngressFrame.wf (f : IngressFrame) : Bool := decide (18 ≤ f.bytes.length)

/-- A management frame carries at most 255 commands (section 11.3). -/
def runWf (run : Nat) : Bool := decide (run ≤ 255)

/-- A well-formed command. -/
def Instr.wf (i : Instr) : Bool :=
  match i with
  | .inboundFrameArrival _ f _ => f.wf
  | .fallbackEntry _ f _ => f.wf
  | .acquisition _ f _ => f.wf
  | .recovery _ f _ => f.wf
  | .captureDone _ f _ => f.wf
  | .ingressFrameArrival f => f.wf
  | .managementFrameExecution run => runWf run
  | .tableWriteLadder _ _ l => writeFits 8 l.length
  | .tableWriteLadderLength _ _ l => writeFits 1 l.length
  | .tableWriteCurve _ _ l => writeFits 2 l.length
  | .tableWriteFlow _ l => writeFits 10 l.length
  | .tableWriteShed _ l => writeFits 2 l.length
  | .tableWriteClassLimit _ l => writeFits 2 l.length
  | .outboundFrameStart _ | .requestTimerExpiry _ | .fill | .segmentArrival _ | .lossMark _ | .lateResync _ | .tick
  | .gapExpiry | .status _ | .tableRead _ _ _ _ | .setAcquisitionCountLimit _ _ | .setFreshnessLimit _ _
  | .setRecovery _ _ | .setAdaptationMode _ _ | .setFixedProfile _ _ | .setRxFloor _ _ | .setRxCeiling _ _
  | .setTxCeiling _ _ | .setBlockPenalty _ _ | .setFallShift _ _ | .setRiseShift _ _ | .setSlopeShift _ _
  | .setLookahead _ _ | .setUpshiftDwell _ _ | .setHoldOff _ _ | .setUrgentSlope _ _ | .setRequestTime _ _
  | .setStepDelay _ _ | .setSweepDwell _ _ | .setDefaultClass _ | .setGapTime _ | .setLateRunLimit _
  | .setManagementTypeCode _ | .setAlertMask _ | .get _ _ | .carrierEnable _ | .carrierDisable _ | .carrierRestart _
  | .testEnter _ _ | .testLeave _ | .clearHold _ | .sweep _ _ _ | .sweepStep | .captureArm _ _ _ | .captureCancel
  | .captureRead _ _ | .latchClear _ | .resetTraffic | .resetDevice | .resetLineAssertion _ | .powerOn _
  | .resetLineRelease => true

end Sys2Proof
end

