-- ==== Sys2Proof/Tests/Slice0.lean ====
section
/-! SUPPORT. Tests of this sitting: an ill-formed command for each check of WellFormed, the worked examples and tables of the manual, and,
for every statement with hypotheses, concrete states and operands that meet them, clause by clause. Expected results come from the
manual's own examples and tables, named in each docstring. -/

namespace Sys2Proof.Tests

open Sys2Proof Sys2Proof.Machine

/-! ### Small states -/

/-- A ladder of three entries that passes validation. -/
def ladder3 : Ladder :=
  { length := 3
    entries :=
      #v[⟨0, 0, 2, 0, 0⟩, ⟨2, 1, 4, 100, 90⟩, ⟨4, 2, 8, 180, 170⟩, LadderEntry.zero, LadderEntry.zero, LadderEntry.zero,
        LadderEntry.zero, LadderEntry.zero, LadderEntry.zero, LadderEntry.zero, LadderEntry.zero, LadderEntry.zero]
    code := 0x5A
    locked := false }

/-- The reference ladder of section 4.1. -/
def referenceLadder : Ladder :=
  { length := 9
    entries :=
      #v[⟨0, 0, 60, 0, 0⟩, ⟨1, 1, 120, 104, 88⟩, ⟨2, 1, 150, 128, 112⟩, ⟨3, 2, 180, 152, 136⟩, ⟨4, 2, 210, 176, 160⟩,
        ⟨5, 3, 240, 200, 184⟩, ⟨6, 3, 270, 224, 208⟩, ⟨7, 4, 300, 248, 232⟩, ⟨8, 4, 330, 272, 256⟩, LadderEntry.zero,
        LadderEntry.zero, LadderEntry.zero]
    code := 0x04
    locked := true }

/-- A fill record of a frame at profile 0. -/
def recordOf (n : FrameNo) : FillRecord := ⟨n, 0, 0, 0, 2, .segments [idleSegment, idleSegment], 0, 0⟩

/-- A carrier in a state other than OFF with frames 6 and 7 filled. -/
def carrierIn (st : CarrierState) : Carrier :=
  { Carrier.reset with
    control := { Control.reset with state := st }
    ladder := { ladder3 with locked := true }
    lane := { Lane.reset with outCounter := 5, records := [recordOf 6, recordOf 7], nf := some 8, modemTable := some ladder3.modemTable } }

/-- An OFF carrier whose ladder is written. -/
def offCarrier : Carrier := { Carrier.reset with ladder := ladder3 }

/-- The machine with one carrier. -/
def withCar (k : Carrier) : State := State.reset.setCar 0 k

/-- The machine with carrier 0 in a state. -/
def inState (st : CarrierState) : State := withCar (carrierIn st)

/-- The machine with the RESET line held low. -/
def heldState : State := { State.reset with pins := ⟨true, 0⟩ }

/-- The carrier with an outstanding request. -/
def asking (k : Carrier) (st : ReqState) (timer : Nat) : Carrier := { k with req := { k.req with state := st, timer := timer } }

/-- A carrier whose fill of frame 7 is due: frame 6 alone is filled. -/
def due (k : Carrier) : Carrier := { k with lane := { k.lane with records := [recordOf 6], nf := some 7 } }

/-- A carrier with a standing fill request of frame 7. -/
def standing (k : Carrier) : Carrier := { due k with dist := { k.dist with request := some 7 } }

/-- The machine with a data fill of frame 7 of carrier 0 being carried out: one of the four slots of profile 1 is drawn, and a frame of
two slots stands in class 3. -/
def filling : State :=
  { withCar (due (carrierIn .run)) with
    queues := { Queues.reset with frames := ⟨[], [], [], [List.replicate 65 0]⟩, occupancy := ⟨0, 0, 0, 2⟩ }
    filling := some ⟨0, 7, 1, [⟨65535, true, true, false, 64, List.replicate 64 0⟩]⟩ }

/-- An inbound frame that the modem could not find. -/
def unlockedFrame : InboundFrame := ⟨false, none, 0, 0, []⟩

/-- The header fields of a far end in a state. -/
def farBits (status : BitVec 4) : HeaderBits := ⟨status, 9, 0, 0, 0x5A, 0, 0, 0, 0, 0, 0, 0, 0⟩

/-- An inbound frame with a header assembled from its fields. -/
def lockedFrame (h : HeaderBits) : InboundFrame := ⟨true, some (headerBytes h), 100, 0, []⟩

/-- A data segment of a full slot. -/
def segmentOf (seq : SeqNo) (first last : Bool) : Segment := ⟨seq, first, last, false, 64, List.replicate 64 0⟩

/-- The machine with one item waiting at carrier 0 and the Resequencer given. -/
def waitingItem (r : Reseq) (i : Item) : State :=
  { withCar { Carrier.reset with lane := { Lane.reset with handover := [i] } } with reseq := r }

/-- The Resequencer in SYNC. -/
def synced : Reseq := { Reseq.reset with synced := true, expected := 100 }

/-- A frame of some bytes closed by its frame check sequence. -/
def closed (l : List Byte) : Frame := l ++ fcsBytes l

/-- A frame closed by its frame check sequence passes the check of R101, so that hypotheses on good frames are met. -/
theorem closed_good (l : List Byte) :
    (closed l).length = l.length + 4 ∧ (closed l).drop ((closed l).length - 4) = fcsBytes ((closed l).take ((closed l).length - 4)) ∧
      fcsGood (closed l) = true := by
  have hl : (closed l).length = l.length + 4 := by simp [closed, fcsBytes]
  have h : (closed l).drop ((closed l).length - 4) = fcsBytes ((closed l).take ((closed l).length - 4)) := by
    rw [hl, Nat.add_sub_cancel, closed, List.drop_left, List.take_left]
  exact ⟨hl, h, by rw [fcsGood, h, decide_eq_true rfl, Bool.and_true, decide_eq_true_eq]; omega⟩

/-! ### WellFormed refuses -/

theorem test_wf_refuses_short_slot : InboundSlot.wf ⟨true, [0]⟩ = false := by decide
theorem test_wf_refuses_header_without_lock : (InboundFrame.mk false (some (List.replicate 14 0)) 0 0 []).wf = false := by decide
theorem test_wf_refuses_lock_without_header : (InboundFrame.mk true none 0 0 []).wf = false := by decide
theorem test_wf_refuses_short_header : (InboundFrame.mk true (some [0]) 0 0 []).wf = false := by decide
theorem test_wf_refuses_large_x : (InboundFrame.mk false none 1024 0 []).wf = false := by decide
theorem test_wf_refuses_large_b : (InboundFrame.mk false none 0 64 []).wf = false := by decide
theorem test_wf_refuses_ill_formed_slot : (InboundFrame.mk false none 0 0 [⟨false, []⟩]).wf = false := by decide
theorem test_wf_refuses_too_many_slots : (InboundFrame.mk false none 0 0 (List.replicate 1024 ⟨false, []⟩)).wf = false := by
  decide +kernel
theorem test_wf_refuses_tiny_ingress_frame : (Instr.ingressFrameArrival ⟨[0], true⟩).wf = false := by decide
theorem test_wf_refuses_long_run : (Instr.managementFrameExecution 256).wf = false := by decide
theorem test_wf_refuses_long_write : (Instr.tableWriteLadderLength 0 0 (List.replicate 9573 0)).wf = false := by decide +kernel
theorem test_wf_takes_arrival : (Instr.inboundFrameArrival 0 unlockedFrame 0).wf = true := by decide

/-! ### Worked examples and tables of the manual -/

/-- The nine ASCII bytes of section 13.6. -/
def digits : List Byte := [0x31, 0x32, 0x33, 0x34, 0x35, 0x36, 0x37, 0x38, 0x39]

/-- Section 13.6. -/
theorem test_crc16_digits : crc16 digits = 0x29B1 := by decide +kernel
/-- Section 13.6. -/
theorem test_crc8_digits : crc8 digits = 0xF4 := by decide +kernel
/-- Section 13.6. -/
theorem test_crc32_digits : fcsBytes digits = [0x26, 0x39, 0xF4, 0xCB] := by decide +kernel
/-- Section 13.6: an empty ladder. -/
theorem test_ladder_code_empty : Ladder.reset.recode.code = 0x00 := by decide +kernel
/-- Section 13.6: the reference ladder. -/
theorem test_ladder_code_reference : referenceLadder.recode.code = 0x04 := by decide +kernel
/-- Section 13.6: over all 14 bytes of an intact header the register ends with 0. -/
theorem test_header_remainder : crc16 (headerBytes (farBits 2)) = 0 := by decide +kernel
/-- R150: the first payload bytes of every pattern frame. -/
theorem test_pattern_starts : patternBytes 4 = [0x00, 0x02, 0x00, 0x0C] := by decide +kernel
/-- The layout of section 13.1, written out byte by byte from a header with every field different. -/
theorem test_header_layout :
    headerBody ⟨2, 0xABC, 7, 5, 0x5A, 2, 1, 1, 3, 6, 0x123, 0x4567, 0x2AB⟩ =
      [0x2A, 0xBC, 0x75, 0x5A, 0x97, 0x61, 0x23, 0x45, 0x67, 0x02, 0xAB, 0x00] := by decide
/-- The layout of section 13.2. -/
theorem test_segment_layout :
    (segmentBytes ⟨0x1234, true, false, true, 5, List.replicate 64 9⟩).take 5 = [0x12, 0x34, 0xA0, 0x05, 0x09] := by decide
/-- The table of R5. -/
theorem test_reached_table :
    [reached 300 300, reached 4095 4090, reached 10 4090, reached 4090 10, reached 2058 10, reached 2057 10] =
      [true, true, true, false, false, true] := by decide
/-- The table of R44 with the reset curve, and its last row with C[8] written as 260. -/
theorem test_calibration_table :
    [0, 64, 100, 470, 1000, 1023].map Estimator.reset.calibrate = [400, 375, 361, 216, 9, 0] ∧
      Estimator.calibrate { Estimator.reset with curve := Config.curveReset.set 8 260 } 470 = 237 := by decide

/-- F, G, P and Q after an arrival. -/
def levels (e : Estimator) : Int × Int × Int × Int := (e.level, e.slope, e.predicted, e.quality)

/-- The estimator of section 3.11 with a level and a slope. -/
def estimatorAt (level slope : Int) : Estimator := { Estimator.reset with level := level, slope := slope, firstSample := false }

/-- Worked arrivals 1, 2 and 3 of section 3.11. -/
theorem test_worked_arrivals :
    levels ((estimatorAt 7680 0).arrival ⟨true, none, 470, 1, []⟩) = (7040, -80, 6400, 200) ∧
      levels ((estimatorAt 7040 (-80)).arrival ⟨true, none, 470, 0, []⟩) = (6976, -78, 6352, 198) ∧
        levels ((estimatorAt 6976 (-78)).arrival ⟨true, none, 320, 0, []⟩) = (7090, -54, 6658, 208) := by decide

/-- A decision of section 4.6 for the reference ladder: the request issued. -/
def decides (q : Requester) (running : Bool) (lo hi : Nat) (quality slope : Int) : Option Request :=
  (q.decideAdaptive referenceLadder running ⟨lo, hi, quality, slope⟩).2

/-- A Requester with an inbound profile. -/
def requesterAt (k : Nat) : Requester := { Requester.reset with inbound := k }

/-- Cases a to g of section 4.6. -/
theorem test_worked_downshifts :
    [decides (requesterAt 5) true 0 8 190 (-20), decides (requesterAt 5) true 0 8 180 (-40), decides (requesterAt 5) true 0 8 180 (-300),
        decides (requesterAt 6) true 0 8 130 (-60), decides (requesterAt 3) true 0 8 0 (-480), decides (requesterAt 3) true 2 8 0 (-480),
        decides (requesterAt 3) true 2 8 0 (-100)] =
      [none, some ⟨.step, 4⟩, some ⟨.urgent, 4⟩, some ⟨.urgent, 2⟩, some ⟨.urgent, 0⟩, some ⟨.urgent, 2⟩, some ⟨.step, 2⟩] := by
  decide

/-- Cases h to n of section 4.6. -/
theorem test_worked_windows_and_upshifts :
    [decides (requesterAt 2) true 4 8 200 0, decides (requesterAt 8) true 0 6 260 0,
        decides { requesterAt 3 with dwell := 49 } true 0 8 180 0, decides { requesterAt 3 with holdOff := 11, dwell := 49 } true 0 8 180 0,
        decides (requesterAt 4) false 0 8 250 0, decides (requesterAt 4) false 0 8 150 (-30), decides (requesterAt 1) true 0 8 90 0] =
      [some ⟨.step, 4⟩, some ⟨.step, 6⟩, some ⟨.step, 4⟩, none, none, some ⟨.step, 3⟩, none] := by decide

/-- The FIXED decision that closes section 4.6. -/
theorem test_worked_fixed :
    ((requesterAt 3).decideFixed 7 true ⟨0, 6, 0, 0⟩).2 = some ⟨.step, 6⟩ ∧ ((requesterAt 3).decideFixed 7 false ⟨0, 6, 0, 0⟩).2 = none := by
  decide

/-- The reference ladder passes validation (section 4.1); the ladder of a device reset raised to length 1 fails check 2 (R64). -/
theorem test_validation : referenceLadder.validate = none ∧ Ladder.validate { Ladder.reset with length := 1 } = some (2, 0) := by decide

/-- Section 6.5, the order of the checks: frames a, b, c and d. -/
def admissionState : State :=
  { State.reset with
    admission := { Admission.reset with shed := ⟨false, false, false, true⟩ }
    queues := { Queues.reset with occupancy := ⟨0, 0, 6100, 10244⟩ } }

/-- The admission of a frame of n bytes in class k, as counted. -/
def admitted (s : State) (k : ClassId) (n : Nat) : State := s.admitFrame k (List.replicate n 0)

/-- Frame a is admitted with class 2 at 6,124 and 16 slots free; b is a limit drop, c a buffer drop, d a shed drop (section 6.5). -/
theorem test_worked_admission :
    let a := admitted admissionState 2 1500
    (a.queues.occupancy.at2, a.queues.free, a.admission.counters.at2.admitted) = (6124, 16, 1) ∧
      (admitted a 2 1500).admission.counters.at2.limitDrops = 1 ∧ (admitted a 0 1500).admission.counters.at0.bufferDrops = 1 ∧
        (admitted a 3 64).admission.counters.at3.shedDrops = 1 := by decide +kernel

/-- Step 5 of the example of section 6.3: at A = 330 class 2 becomes shed and class 3 stays so. -/
theorem test_worked_shedding :
    ({ Admission.reset with
        contributions := ⟨150, 0, 120, 60⟩, shedTable := ⟨32, 120, 400, 700⟩, shed := ⟨false, false, false, true⟩ } :
      Admission).evaluate.shed = ⟨false, false, true, true⟩ := by decide

/-- Step 6 of the same example: A = 390 lies below the 432 that class 2 needs. -/
theorem test_worked_hysteresis :
    ({ Admission.reset with
        contributions := ⟨150, 60, 120, 60⟩, shedTable := ⟨32, 120, 400, 700⟩, shed := ⟨false, false, true, true⟩ } :
      Admission).evaluate.shed = ⟨false, false, true, true⟩ := by decide

/-- Step 3 of the example of section 6.6: the last slot of P, then M of class 0, then the first slot of Q. -/
theorem test_worked_draws :
    let q : Queues :=
      { frames := ⟨[List.replicate 64 1], [], [], [List.replicate 100 2]⟩, occupancy := ⟨1, 0, 1, 2⟩,
        cursor := some ⟨List.replicate 300 3, 2, 4⟩, seq := 65535, framesStarted := 1 }
    let d := q.drawMany 3
    d.1.map (fun g => (g.seq, g.first, g.last, g.count)) = [(65535, false, true, 44), (0, true, true, 64), (1, true, false, 64)] ∧
      (d.2.occupancy, d.2.framesStarted) = (⟨0, 0, 0, 1⟩, 3) := by decide +kernel

/-- Steps 8 and 9 of section 8.10 in one tick: the gap at 1003 and 1004 expires and delivery runs to 1010. -/
theorem test_worked_gap :
    let r : Reseq :=
      { Reseq.reset with
        synced := true, expected := 1003, gap := some 1, context := some ⟨3, []⟩
        window :=
          [(2, .segment (segmentOf 1005 false false)), (3, .segment (segmentOf 1006 false true)),
            (4, .segment (segmentOf 1007 true false)), (5, .lost), (6, .segment (segmentOf 1009 false true))] }
    let t := ({ State.reset with reseq := r } : State).tick.reseq
    (t.expected, t.window, t.gap, t.context) = (1010, [], none, none) ∧
      (t.gapExpiries, t.gapPositionsLost, t.lostDelivered, t.lossDiscards, t.orphans) = (1, 2, 3, 2, 3) := by decide +kernel

/-- What a command leaves, read by a function. -/
def after {α : Type} (i : Instr) (s : State) (f : State → α) : Option α :=
  match exec i s with
  | .next t => some (f t)
  | _ => none

/-- The answer of a command row, as its result and data. -/
def replies (i : Instr) (s : State) : Option Reply := (after i s (fun t => t.agent.reply)).join

/-- R64: after a device reset the ladder is empty, so ENABLE fails check 1 at index 0. -/
theorem test_enable_without_ladder : replies (.carrierEnable 0) State.reset = some ⟨.ladder, [1, 0]⟩ := by decide
/-- R177, section 13.3: the gap time of a device reset is 40. -/
theorem test_get_gap_time : replies (.get 21 0) State.reset = some ⟨.ok, [0, 0, 0, 40]⟩ := by decide
/-- R66: the urgent slope of a device reset is -256, in two's complement (section 13.3). -/
theorem test_get_urgent_slope : replies (.get 16 3) State.reset = some ⟨.ok, [0xFF, 0xFF, 0xFF, 0x00]⟩ := by decide
/-- R172: a value below the range is clamped to its lower end. -/
theorem test_set_clamps : replies (.setRequestTime 0 3) State.reset = some ⟨.clamped, [0, 0, 0, 4]⟩ := by decide
/-- R168: the type code of the tag identifier is refused. -/
theorem test_type_code_refused : replies (.setManagementTypeCode 0x8100) State.reset = some ⟨.range, []⟩ := by decide
/-- R176: position 12 of TEST_RESULTS gives 8 bytes. -/
theorem test_read_lost_frames : replies (.tableRead 7 0 12 1) State.reset = some ⟨.ok, List.replicate 8 0⟩ := by decide
/-- R31: a test profile is clamped to the effective tx ceiling, here 2, and returned. -/
theorem test_test_enter_clamps : replies (.testEnter 0 11) (inState .run) = some ⟨.clamped, [2]⟩ := by decide
/-- R156, R192: a dwell of 0 is stored as 1. -/
theorem test_sweep_dwell_zero : replies (.sweep 0 1 (some 0)) (inState .test) = some ⟨.clamped, [1, 0, 1]⟩ := by decide
/-- R166: outside DONE a READ is refused with BUSY. -/
theorem test_capture_read_busy : replies (.captureRead 0 1) State.reset = some ⟨.busy, []⟩ := by decide
/-- R113: the class limits of a device reset. -/
theorem test_read_class_limits : replies (.tableRead 6 0 0 4) State.reset = some ⟨.ok, [4, 0, 8, 0, 24, 0, 24, 0]⟩ := by decide
/-- The fill lead of section 1.2: at the start of frame 6 the fill of frame 8 is requested. -/
theorem test_start_requests_fill :
    after (.outboundFrameStart 0) (inState .run) (fun t => ((t.car 0).dist.request, (t.car 0).lane.outCounter)) = some (some 8, 6) := by
  decide
/-- R4, R124: the fill that follows is a data fill with Nf one further. -/
theorem test_fill_moves_nf :
    after .fill (withCar { carrierIn .run with dist := { Distributor.reset with request := some 8 } })
      (fun t => ((t.car 0).lane.nf, (t.car 0).dist.request, (t.car 0).dist.dataFills, (t.car 0).dist.idleSegments)) =
      some (some 9, none, 1, 2) := by decide
/-- R23: the arrival at which the freshness counter reaches Tf = 24 enters FALLBACK and forces profile 0. -/
theorem test_fallback :
    after (.inboundFrameArrival 0 unlockedFrame 0)
      (withCar { carrierIn .run with control := { Control.reset with state := .run, freshness := 23 } })
      (fun t => ((t.car 0).control.state, (t.car 0).sched.forced, t.alert.isSet (.fallback 0))) = some (.fallback, some 0, true) := by
  decide
/-- R21: the good header that brings the count to Na = 4 enters RUN. -/
theorem test_acquisition :
    after (.acquisition 0 (lockedFrame (farBits 1)) 0)
      (withCar { carrierIn .acquire with control := { Control.reset with state := .acquire, acqCount := 3 } })
      (fun t => ((t.car 0).control.state, (t.car 0).control.acquisitions)) = some (.run, 1) := by decide +kernel

/-- R184: of three slots handed over for profile 0, whose local capacity is 2, the third gives no item, whatever the data count. -/
theorem test_slots_beyond_capacity :
    let h : RxHeader := ⟨.run, 9, 0, false, 0x5A, none, 0, none, 0, 7, 3⟩
    (frameItems ladder3 (some h) (List.replicate 3 ⟨false, []⟩)).1 = [.loss 7, .loss 8] := by decide

/-- R173: the two bytes of an ENABLE that fails the ladder validation are measured, so that no body passes 1,500 bytes. -/
theorem test_enable_measures_data :
    successLength (.enable 0) State.reset = 2 ∧ checkAndRun (.ok (.enable 0)) 1494 0 State.reset = (⟨.tooLong, []⟩, State.reset) ∧
      (checkAndRun (.ok (.enable 0)) 1493 0 State.reset).1 = ⟨.ladder, [1, 0]⟩ := by decide

/-! ### Hypotheses met: one theorem for each statement that has any, with a part for each of its clauses -/

theorem witness_DeviceResetValues : State.reset.live := by decide

theorem witness_HeldResetHoldsEverything :
    heldState.pins.resetLow = true ∧ (∀ a, Instr.tick ≠ .resetLineAssertion a) ∧ (∀ a, Instr.tick ≠ .powerOn a) ∧
      Instr.tick ≠ .resetLineRelease := by decide

/-- The hypotheses of an outbound start of carrier 0 with frame 6 held once its fills are made. -/
abbrev startable (s : State) : Prop :=
  s.live ∧ (s.car 0).control.state ≠ .off ∧
    ((s.beforeStart 0).car 0).lane.recordOf (((s.beforeStart 0).car 0).lane.outCounter + 1) = some (recordOf 6)

/-- An OFF carrier; a carrier with no fill due; with a standing request; with its fill being carried out, and another's; and a request
timer at 2, the least that does not run out. -/
theorem witness_OutboundStartSendsHeldFrame :
    (State.reset.live ∧ (State.reset.car 0).control.state = .off) ∧
      (startable (inState .run) ∧ (inState .run).filling = none ∧ ((inState .run).car 0).dist.request = none ∧
        (((inState .run).beforeStart 0).car 0).req.state = .idle) ∧
      (startable (withCar (standing (carrierIn .run))) ∧ ((withCar (standing (carrierIn .run))).car 0).dist.request ≠ none) ∧
      (startable filling ∧ ∃ w, filling.filling = some w ∧ w.carrier = 0) ∧
      (∃ w, filling.filling = some w ∧ w.carrier ≠ 1) ∧
      (let s := withCar (asking (standing (carrierIn .run)) (.requesting ⟨.step, 1⟩) 2)
       startable s ∧ ((s.beforeStart 0).car 0).req.state = .requesting ⟨.step, 1⟩ ∧ 1 < ((s.beforeStart 0).car 0).req.timer) := by
  refine ⟨by decide, by decide, by decide, ⟨by decide, _, rfl, rfl⟩, ⟨_, rfl, by decide⟩, by decide⟩

/-- The timer at 1 and at 0, with no fill due and with a standing request. -/
theorem witness_RequestTimerRunsOut :
    ∀ n ∈ [1, 0], ∀ k ∈ [carrierIn .run, standing (carrierIn .run)],
      let s := withCar (asking k (.requesting ⟨.urgent, 0⟩) n)
      startable s ∧ ((s.beforeStart 0).car 0).req.state = .requesting ⟨.urgent, 0⟩ ∧ ((s.beforeStart 0).car 0).req.timer ≤ 1 := by
  decide

theorem witness_CodecsRoundTrip :
    ((segmentOf 65535 true true).count < 256 ∧ (segmentOf 65535 true true).payload.length = 64) ∧
      (∀ x ∈ [RawCommand.mk 255 0 [], RawCommand.mk 1 255 [0, 1]], x.args.length < 65536) := by decide

/-- Carrier number 3, the largest, of the SET statements. -/
theorem witness_SetNumericParameters : State.reset.live ∧ (3#8).toNat = (3 : CarrierId).val := by decide

/-- The codes 0 and 1, and 2 and -1 outside them. -/
theorem witness_SetCodesModesAndReceiveWindow :
    State.reset.live ∧ (3#8).toNat = (3 : CarrierId).val ∧ (0#32).toInt = 0 ∧ (1#32).toInt = 1 ∧
      ((2#32).toInt ≠ 0 ∧ (2#32).toInt ≠ 1) ∧ ((0xFFFFFFFF#32).toInt ≠ 0 ∧ (0xFFFFFFFF#32).toInt ≠ 1) := by decide

theorem witness_SetTxCeilingActsAtOnce : State.reset.live ∧ (0#8).toNat = (0 : CarrierId).val := by decide

theorem witness_SetDeviceParameters :
    State.reset.live ∧ (0x8100#32).toInt = 0x8100 ∧ (0x8101#32).toInt ≠ 0x8100 := by decide

/-- Codes 20 and 24 of the device, 0 and 25 of no parameter, 1 and 19 of a carrier; and a SET that is taken. -/
theorem witness_GetReturnsStoredValue :
    State.reset.live ∧ ((0#8) = 0 ∨ 24 < (0#8).toNat) ∧ ((25#8) = 0 ∨ 24 < (25#8).toNat) ∧
      (1 ≤ (1#8).toNat ∧ (1#8).toNat ≤ 19 ∧ 4 ≤ (4#8).toNat) ∧ (1 ≤ (19#8).toNat ∧ (19#8).toNat ≤ 19 ∧ 4 ≤ (255#8).toNat) ∧
      (3#8).toNat = (3 : CarrierId).val ∧ paramOf 1 = some .acquisitionCountLimit ∧
      paramOf 24 = some .alertMask ∧ (runSet .acquisitionCountLimit 0 99 State.reset).1.result.taken = true ∧
      (runSet .alertMask 0 1 State.reset).1.result.taken = true := by decide

/-- A raw ladder entry. -/
def rawEntry (m : Byte) (cap : BitVec 16) : LadderEntryRaw := ⟨m, 8, cap, 401, 400⟩

/-- Outside OFF; in OFF one entry past index 11, modulation code 10, capacity 0; and the last entry alone, taken. -/
theorem witness_LadderWriteStoresEntries :
    ((inState .run).live ∧ (0#8).toNat = (0 : CarrierId).val ∧ ((inState .run).car 0).control.state ≠ .off) ∧
      (State.reset.live ∧ (State.reset.car 0).control.state = .off) ∧ 12 < (12#8).toNat + [rawEntry 0 1].length ∧
      (∃ e ∈ [rawEntry 10 1], 9 < e.modulation.toNat) ∧ (∃ e ∈ [rawEntry 9 0], e.capacity.toNat = 0) ∧
      ¬ (12 < (11#8).toNat + [rawEntry 9 1].length ∨ (∃ e ∈ [rawEntry 9 1], 9 < e.modulation.toNat) ∨
        ∃ e ∈ [rawEntry 9 1], e.capacity.toNat = 0) := by decide

theorem witness_LadderLengthWrite :
    ((inState .run).live ∧ (0#8).toNat = (0 : CarrierId).val ∧ ((inState .run).car 0).control.state ≠ .off) ∧
      (State.reset.live ∧ (State.reset.car 0).control.state = .off) ∧ ((1#8) ≠ 0 ∨ 2 ≤ ([] : List Byte).length) ∧
      ((0#8) ≠ 0 ∨ 2 ≤ [0#8, 0#8].length) ∧ (0#8) = 0 := by decide

/-- One point past C[16], and C[16] itself. -/
theorem witness_CurveWriteStoresPoints :
    State.reset.live ∧ (0#8).toNat = (0 : CarrierId).val ∧ 17 < (17#8).toNat + [0#16].length ∧ (16#8).toNat + [0#16].length ≤ 17 := by
  decide

/-- A raw flow entry. -/
def rawFlow (tag act : Byte) : FlowEntryRaw := ⟨1, tag, 0, 4096, 0, 8, act, 4⟩

theorem witness_FlowWriteStoresEntries :
    State.reset.live ∧ 64 < (64#8).toNat + [rawFlow 0 0].length ∧ (∃ e ∈ [rawFlow 3 0], 2 < e.tagMatch.toNat) ∧
      (∃ e ∈ [rawFlow 0 2], 1 < e.action.toNat) ∧
      ¬ (64 < (63#8).toNat + [rawFlow 2 1].length ∨ (∃ e ∈ [rawFlow 2 1], 2 < e.tagMatch.toNat) ∨
        ∃ e ∈ [rawFlow 2 1], 1 < e.action.toNat) := by decide

theorem witness_ShedTableAndClassLimitWrites :
    State.reset.live ∧ 4 < (4#8).toNat + [0#16].length ∧ (3#8).toNat + [0#16].length ≤ 4 := by decide

/-- Table codes 0 and 8; a device table and a carrier table read past and up to the end; carrier number 4; and counts of FLOW on both
sides of 1,492 bytes. -/
theorem witness_TableReadReturnsEntries :
    State.reset.live ∧ ((0#8) = 0 ∨ 7 < (0#8).toNat) ∧ ((8#8) = 0 ∨ 7 < (8#8).toNat) ∧
      ((6#8).toNat, State.reset.admission.limits.toList.map be16) ∈ [(6, State.reset.admission.limits.toList.map be16)] ∧
      (State.reset.admission.limits.toList.map be16).length < (3#8).toNat + (2#8).toNat ∧
      (3#8).toNat + (1#8).toNat ≤ (State.reset.admission.limits.toList.map be16).length ∧
      (2#8).toNat = (2 : CarrierId).val ∧
      ((2#8).toNat, [byteOf (State.reset.car 2).ladder.length]) ∈ [(2, [byteOf (State.reset.car 2).ladder.length])] ∧
      (4 ≤ (4#8).toNat ∧ ((7#8) = 1 ∨ (7#8) = 2 ∨ (7#8) = 3 ∨ (7#8) = 7)) ∧
      (14 * (106#8).toNat ≤ 1492 ∧ ¬ 14 * (107#8).toNat ≤ 1492 ∧ 64 < (0#8).toNat + (106#8).toNat) := by decide

theorem witness_EnableStartsCarrier :
    (withCar offCarrier).live ∧ (0#8).toNat = (0 : CarrierId).val ∧ ((withCar offCarrier).car 0).control.state = .off ∧
      ((withCar offCarrier).car 0).ladder.validate = none := by decide

/-- The condition of a check at an index, as LadderValidation has it. -/
def ladderFails (l : Ladder) (check k : Nat) : Prop :=
  match check with
  | 2 => k < l.length ∧ if k = 0 then (l.at 0).capacity < 1 else (l.at k).capacity ≤ (l.at (k - 1)).capacity
  | 3 => 2 ≤ k ∧ k < l.length ∧ (l.at k).enter ≤ (l.at (k - 1)).enter
  | 4 => 2 ≤ k ∧ k < l.length ∧ (l.at k).hold < (l.at (k - 1)).hold
  | _ => 1 ≤ k ∧ k < l.length ∧ (l.at k).enter < (l.at k).hold + 4

/-- A check that fails at an index names an index of the ladder. -/
theorem ladderFails_lt {l : Ladder} {check k : Nat} (h : ladderFails l check k) : k < l.length := by
  unfold ladderFails at h
  split at h <;> omega

/-- A ladder of three entries by its capacities and thresholds. -/
def ladderOf (c0 c1 c2 e1 h1 e2 h2 : Nat) : Ladder :=
  { ladder3 with entries := (ladder3.entries.set 0 ⟨0, 0, c0, 0, 0⟩).set 1 ⟨1, 0, c1, e1, h1⟩ |>.set 2 ⟨2, 0, c2, e2, h2⟩ }

/-- A check holds at every index when it holds at the three of a ladder of length 3. -/
theorem passes3 {l : Ladder} (h3 : l.length = 3) {check : Nat}
    (h : ¬ ladderFails l check 0 ∧ ¬ ladderFails l check 1 ∧ ¬ ladderFails l check 2) : ∀ j, ¬ ladderFails l check j := by
  intro j hj
  have := ladderFails_lt hj
  rw [h3] at this
  have : j = 0 ∨ j = 1 ∨ j = 2 := by omega
  rcases this with rfl | rfl | rfl
  · exact h.1 hj
  · exact h.2.1 hj
  · exact h.2.2 hj

/-- A ladder that fails check 2 at index 2 (capacities 2, 4, 4). -/
theorem witness_LadderValidation_check2 :
    let l := ladderOf 2 4 4 100 90 180 170
    1 ≤ l.length ∧ (∀ x, 2 ≤ x → x < 2 → ∀ j, ¬ ladderFails l x j) ∧ ladderFails l 2 2 ∧ ∀ j, j < 2 → ¬ ladderFails l 2 j := by
  refine ⟨by decide, fun x h1 h2 => by omega, by simp [ladderFails]; decide, fun j hj => ?_⟩
  have : j = 0 ∨ j = 1 := by omega
  rcases this with rfl | rfl <;> simp [ladderFails] <;> decide

/-- A ladder that passes checks 2 to 4 and fails check 5 at index 1 (enter 93, hold 90). -/
theorem witness_LadderValidation_check5 :
    let l := ladderOf 2 4 8 93 90 180 170
    1 ≤ l.length ∧ (∀ x, 2 ≤ x → x < 5 → ∀ j, ¬ ladderFails l x j) ∧ ladderFails l 5 1 ∧ ∀ j, j < 1 → ¬ ladderFails l 5 j := by
  refine ⟨by decide, fun x h1 h2 => ?_, by simp [ladderFails]; decide, fun j hj => ?_⟩
  · have : x = 2 ∨ x = 3 ∨ x = 4 := by omega
    rcases this with rfl | rfl | rfl <;> exact passes3 rfl (by simp only [ladderFails]; decide)
  · have : j = 0 := by omega
    subst this; simp [ladderFails]

/-- A ladder of length 0, and one that passes every check. -/
theorem witness_LadderValidation_ends :
    ((State.reset.car 0).ladder.length = 0 ∧ State.reset.live ∧ (State.reset.car 0).control.state = .off) ∧
      1 ≤ ladder3.length ∧ ∀ x, 2 ≤ x → x ≤ 5 → ∀ j, ¬ ladderFails ladder3 x j := by
  refine ⟨by decide, by decide, fun x h1 h2 => ?_⟩
  have : x = 2 ∨ x = 3 ∨ x = 4 ∨ x = 5 := by omega
  rcases this with rfl | rfl | rfl | rfl <;> exact passes3 rfl (by simp only [ladderFails]; decide)

/-- Ladders that pass the earlier checks and fail check 3 at index 2 (enter 100, 100) and check 4 at index 2 (hold 90, 89). -/
theorem witness_LadderValidation_checks3and4 :
    (let l := ladderOf 2 4 8 100 90 100 90
     (∀ j, ¬ ladderFails l 2 j) ∧ ladderFails l 3 2 ∧ ∀ j, j < 2 → ¬ ladderFails l 3 j) ∧
      (let l := ladderOf 2 4 8 100 90 180 89
       (∀ j, ¬ ladderFails l 2 j) ∧ (∀ j, ¬ ladderFails l 3 j) ∧ ladderFails l 4 2 ∧ ∀ j, j < 2 → ¬ ladderFails l 4 j) := by
  refine ⟨⟨passes3 rfl (by simp only [ladderFails]; decide), by simp [ladderFails]; decide, fun j hj => ?_⟩,
    ⟨passes3 rfl (by simp only [ladderFails]; decide), passes3 rfl (by simp only [ladderFails]; decide), by simp [ladderFails]; decide, fun j hj => ?_⟩⟩ <;>
  · rintro ⟨h1, _⟩; omega

theorem witness_DisableClearsCarrier :
    State.reset.live ∧ (0#8).toNat = (0 : CarrierId).val ∧ (State.reset.car 0).control.state = .off ∧ (inState .hold).live ∧
      ((inState .hold).car 0).control.state ≠ .off := by decide

theorem witness_RestartKeepsFilledFrames :
    (inState .test).live ∧ (0#8).toNat = (0 : CarrierId).val ∧ ((inState .test).car 0).control.state ≠ .off := by decide

theorem witness_TestAndHoldActions :
    ((inState .run).live ∧ (0#8).toNat = (0 : CarrierId).val ∧ ((inState .run).car 0).control.state ≠ .off ∧
        ((inState .run).car 0).control.state ≠ .test) ∧
      ((inState .test).live ∧ ((inState .test).car 0).control.state = .test) ∧
      (inState .hold).live ∧ ((inState .hold).car 0).control.state = .hold := by decide

theorem witness_ActionsRefusedByState :
    ((inState .run).live ∧ (0#8).toNat = (0 : CarrierId).val ∧ ((inState .run).car 0).control.state ≠ .off ∧
        ((inState .run).car 0).control.state ≠ .test ∧ ((inState .run).car 0).control.state ≠ .hold) ∧
      (State.reset.live ∧ (State.reset.car 0).control.state = .off ∧ (1 ≤ (1#8).toNat ∧ (1#8).toNat ≤ 5) ∧
        (1 ≤ (5#8).toNat ∧ (5#8).toNat ≤ 5)) ∧
      ((inState .test).car 0).control.state = .test := by decide

theorem witness_CarrierNumberRefused : State.reset.live ∧ 4 ≤ (4#8).toNat ∧ 4 ≤ (255#8).toNat := by decide

theorem witness_SweepStarts :
    (inState .test).live ∧ (0#8).toNat = (0 : CarrierId).val ∧ ((inState .test).car 0).control.state = .test := by decide

/-- Trigger codes 0 and 6, and 1 and 5. -/
theorem witness_CaptureArmAndCancel :
    ((inState .run).live ∧ (0#8).toNat = (0 : CarrierId).val ∧ ((inState .run).car 0).control.state ≠ .off) ∧
      ((0#8) = 0 ∨ 5 < (0#8).toNat) ∧ ((6#8) = 0 ∨ 5 < (6#8).toNat) ∧
      ([Trigger.immediate, .anyDownshift, .urgent, .fallback, .mismatch][(1#8).toNat - 1]? = some .immediate ∧ (1#8) ≠ 0) ∧
      ([Trigger.immediate, .anyDownshift, .urgent, .fallback, .mismatch][(5#8).toNat - 1]? = some .mismatch ∧ (5#8) ≠ 0) := by decide

/-- The machine with a capture in DONE. -/
def doneState : State := { State.reset with history := { History.reset with state := .done } }

theorem witness_CaptureReadReturnsRing :
    State.reset.live ∧ State.reset.history.state ≠ .done ∧ doneState.live ∧ doneState.history.state = .done ∧
      511 < (512#16).toNat ∧ (511#16).toNat ≤ 511 := by decide

theorem witness_LatchClear : State.reset.live := by decide

/-- The device after reset, and a fill being carried out. -/
theorem witness_StatusReportsAndClears :
    (State.reset.live ∧ filling.live ∧ filling.filling.isSome) ∧ 2 ≤ (2#8).toNat ∧ (0#8) = 0 ∧ (1#8) = 1 := by decide

theorem witness_TrafficResetEmptiesTraffic : State.reset.live := by decide

/-- An untagged frame body of n bytes that is not for this part. -/
def plainBody (n : Nat) : List Byte := List.replicate n 0

/-- A frame body of n bytes addressed to every management agent, with the type code of a device reset. -/
def managementBody (n : Nat) : List Byte := List.replicate 6 0xFF ++ List.replicate 6 0 ++ [0xA3, 0xE1] ++ List.replicate (n - 14) 0

theorem plainBody_length (n : Nat) : (plainBody n).length = n := List.length_replicate

theorem managementBody_length (n : Nat) (h : 14 ≤ n) : (managementBody n).length = n := by
  simp only [managementBody, List.length_append, List.length_replicate, List.length_cons, List.length_nil]
  omega

/-- The hypotheses of the ingress checks on a frame. -/
abbrev goodFrame (f : Frame) : Prop := 4 ≤ f.length ∧ f.drop (f.length - 4) = fcsBytes (f.take (f.length - 4))

theorem closed_goodFrame (l : List Byte) : goodFrame (closed l) := ⟨by have := (closed_good l).1; omega, (closed_good l).2.1⟩

/-- A frame with a wrong check; good frames of 63, 64, 9,600 and 9,601 bytes; management frames with room in the queue and without. -/
theorem witness_IngressDropsAndDiverts :
    State.reset.live ∧ ¬ goodFrame [0, 0, 0, 1] ∧ (goodFrame (closed (plainBody 59)) ∧ (closed (plainBody 59)).length = 63) ∧
      (goodFrame (closed (managementBody 60)) ∧ (closed (managementBody 60)).length = 64) ∧
      (goodFrame (closed (managementBody 9596)) ∧ (closed (managementBody 9596)).length = 9600) ∧
      (goodFrame (closed (plainBody 9597)) ∧ (closed (plainBody 9597)).length = 9601) ∧
      (14 ≤ (closed (managementBody 60)).length ∧
        word16 (byteAt (closed (managementBody 60)) 12) (byteAt (closed (managementBody 60)) 13) = State.reset.agent.typeCode ∧
        (closed (managementBody 60)).take 6 = [0xFF, 0xFF, 0xFF, 0xFF, 0xFF, 0xFF]) ∧
      State.reset.agent.queue.length < 4 ∧
      4 ≤ ({ Agent.reset with queue := List.replicate 4 ⟨.site, []⟩ } : Agent).queue.length := by
  refine ⟨by decide, by decide +kernel, ⟨closed_goodFrame _, ?_⟩, ⟨closed_goodFrame _, ?_⟩, ⟨closed_goodFrame _, ?_⟩,
    ⟨closed_goodFrame _, ?_⟩, by decide +kernel, by decide, by decide⟩
  · rw [(closed_good _).1, plainBody_length]
  · rw [(closed_good _).1, managementBody_length _ (by decide)]
  · rw [(closed_good _).1, managementBody_length _ (by omega)]
  · rw [(closed_good _).1, plainBody_length]

/-- A flow entry of class 2 that takes every frame. -/
def anyEntry : FlowEntry := { FlowEntry.zero with valid := true, tagMatch := .any, vlanHigh := 4095, prioHigh := 7, cls := 2 }

/-- A good frame that is not the Agent's, the entry that takes it at index 63 after 63 invalid ones, and the table of a device reset, where none
does; and a tagged frame at the upper bounds of its ranges. -/
theorem witness_FlowTableDecides :
    (State.reset.live ∧ fcsGood (closed (plainBody 60)) = true ∧ 64 ≤ (closed (plainBody 60)).length ∧
        (closed (plainBody 60)).length ≤ 9600 ∧ State.reset.agent.recognises (closed (plainBody 60)) = false) ∧
      (let table := Classifier.reset.table.set 63 anyEntry
       table[(63 : Fin 64)].valid = true ∧ table[(63 : Fin 64)].tagMatch ≠ .tagged ∧ (∀ j : Fin 64, j < 63 → table[j].valid = false)) ∧
      (∀ i : Fin 64, Classifier.reset.table[i].valid = false) ∧
      (let f : Frame := List.replicate 12 0 ++ [0x81, 0x00, 0xEF, 0xFF]
       (byteAt f 12 = 0x81 ∧ byteAt f 13 = 0x00) ∧ (byteAt f 14).toNat % 16 * 256 + (byteAt f 15).toNat = anyEntry.vlanHigh ∧
         (byteAt f 14).toNat / 32 = anyEntry.prioHigh) := by
  refine ⟨⟨by decide, (closed_good _).2.2, ?_, ?_, by decide +kernel⟩, by decide, by decide, by decide⟩
  · rw [(closed_good _).1, plainBody_length]
  · rw [(closed_good _).1, plainBody_length]; omega

/-- Every row of R112 at its boundary: Amin = 400 and Ah = 32 with the aggregate at 399, 400, 431 and 432; and a contribution that stands and
one that has changed. -/
theorem witness_ContributionSignalAndShedEvaluation :
    (let table : Quad Nat := ⟨32, 120, 400, 700⟩
     399 < table.get 2 ∧ table.get 2 ≤ 400 ∧ 431 < table.get 2 + table.get 0 ∧ table.get 2 + table.get 0 ≤ 432 ∧ (2 : ClassId) ≠ 0) ∧
      (State.reset.car 0).contribution = State.reset.admission.contributions.get 0 ∧
      ((inState .run).car 0).contribution ≠ (inState .run).admission.contributions.get 0 := by decide

/-- Queues with one frame of 65 bytes in class 3, and with its second slot left. -/
def heldQueues : Queues := { Queues.reset with frames := ⟨[], [], [], [plainBody 65]⟩, occupancy := ⟨0, 0, 0, 2⟩ }

theorem witness_DrawsTakeSlotsInOrder :
    (Cursor.mk (plainBody 65) 3 1) ∈ ({ Queues.reset with cursor := some ⟨plainBody 65, 3, 1⟩ } : Queues).cursor ∧
      (heldQueues.cursor = none ∧ heldQueues.frames.get 3 = [plainBody 65] ∧ (∀ j, j < (3 : ClassId) → heldQueues.frames.get j = [])) ∧
      (Queues.reset.cursor = none ∧ ∀ k, Queues.reset.frames.get k = []) ∧
      (heldQueues.drawMany 3).1.length < 3 ∧ heldQueues.heldOk := by decide

/-- Carrier 0 with a standing fill request for frame 8. -/
def requesting (k : Carrier) : Carrier := { k with dist := { k.dist with request := some 8 } }

/-- No request; carriers 0 and 3 granted; and a fill being carried out with nothing listed and with one draw listed. -/
theorem witness_FillGrantedByChainOrder :
    (State.reset.live ∧ State.reset.filling = none ∧ ∀ c : CarrierId, (State.reset.car c).dist.request = none) ∧
      (let s := withCar (requesting (carrierIn .run))
       s.live ∧ s.filling = none ∧ (∀ d : CarrierId, d < 0 → (s.car d).dist.request = none) ∧ (s.car 0).dist.request = some 8 ∧
         (s.car 0).control.state ≠ .off ∧ (s.car 0).control.state = .run) ∧
      (let s := State.reset.setCar 3 (requesting (carrierIn .test))
       s.live ∧ s.filling = none ∧ (∀ d : CarrierId, d < 3 → (s.car d).dist.request = none) ∧ (s.car 3).dist.request = some 8 ∧
         (s.car 3).control.state = .test) ∧
      ((inState .fallback).car 0).control.state = .fallback ∧
      (filling.live ∧ ∃ w, filling.filling = some w ∧ filling.drawPlan = []) ∧
      (let s := { filling with drawPlan := [1] }
       s.live ∧ ∃ w, s.filling = some w ∧ s.drawPlan ≠ []) :=
  ⟨by decide, by decide, by decide, by decide, ⟨by decide, _, rfl, rfl⟩, by decide, _, rfl, by decide⟩

/-- R122: with one draw listed twice, the first draw takes the head of class 3; a frame of class 0 admitted then is drawn next, and the fill
still waits. -/
theorem test_admission_between_draws :
    let two : Queues := { Queues.reset with frames := ⟨[], [], [], [List.replicate 64 3, List.replicate 64 4]⟩, occupancy := ⟨0, 0, 0, 2⟩ }
    (match exec .fill { filling with queues := two, drawPlan := [1, 1] } with
      | .next t =>
        after .fill (admitted t 0 64)
          (fun u => (u.filling.map (fun w => w.drawn.map (fun g => (g.seq, g.payload.head?))), u.queues.occupancy, u.drawPlan))
      | _ => none) = some (some [(65535, some 0), (0, some 3), (1, some 0)], ⟨0, 0, 0, 1⟩, []) := by decide +kernel

/-- R119: a STATUS with clear between two draws finds the fill with its one segment drawn and the occupancies that the draw left, and
leaves both. -/
theorem test_status_between_draws :
    after (.status 1) filling (fun u => (u.filling, u.queues.occupancy)) = some (filling.filling, ⟨0, 0, 0, 2⟩) := by decide +kernel

/-- R132: after a STATUS with clear between two draws, the rest of the fill places the two segments whose numbers are given out since. -/
theorem test_counts_after_clear :
    (match exec (.status 1) filling with
      | .next t =>
        after .fill t (fun u => ((u.car 0).dist.dataSegments, (u.queues.seq - t.queues.seq).toNat, u.queues.framesStarted))
      | _ => none) = some (2, 2, 1) := by decide +kernel

/-- A carrier in TEST with an ACTIVE sweep at a step, one fill short of its dwell; the effective tx ceiling is 2. -/
def sweeping (step : Nat) : State :=
  withCar
    { requesting (carrierIn .test) with
      test := { TestUnit.reset with sweepActive := true, sweepStep := step, sweepCount := 1999 } }

/-- Below the ceiling (step 1) and at it (step 2). -/
theorem witness_SweepStepsAtDwell :
    ∀ p ∈ [1, 2],
      (sweeping p).live ∧ (sweeping p).grant = some (0, 8) ∧ ((sweeping p).car 0).control.state ≠ .off ∧
        ((sweeping p).car 0).test.sweepActive = true ∧
        ((sweeping p).car 0).test.dw ≤ ((sweeping p).car 0).test.sweepCount + 1 ∧
        (((sweeping p).car 0).test.sweepStep < min ((sweeping p).car 0).control.txCeiling (((sweeping p).car 0).ladder.length - 1) ↔
          p = 1) := by decide

/-- The bytes of a header with a wrong check value. -/
def badBytes : List Byte := List.replicate 14 0

/-- The header that a good far end sends in a state, as a lane receives it. -/
def goodHeader (st : CarrierState) : RxHeader := ⟨st, 9, 0, false, 0x5A, none, 0, none, 0, 0, 0⟩

/-- An unlocked frame; a header whose check fails; status code 6; status codes 1 and 5 of good headers. -/
theorem witness_HeaderJudgedAndItemsBySlot :
    (unlockedFrame.lock = false ∨ unlockedFrame.header = none) ∧
      crc16 (badBytes.take 12) ≠ word16 (byteAt badBytes 12) (byteAt badBytes 13) ∧
      (∀ st ∈ [1#4, 5#4, 6#4],
        let b := headerBytes (farBits st)
        crc16 (b.take 12) = word16 (byteAt b 12) (byteAt b 13) ∧ (readHeaderBody b).status = st) ∧
      ((goodHeader .test).status = .test ∧ (goodHeader .test).dataCount = 0) ∧
      ¬ ((goodHeader .run).status = .test ∧ (goodHeader .run).dataCount = 0) ∧
      ((0 : Nat) < ({ goodHeader .run with dataCount := 1 } : RxHeader).dataCount ∧
        [InboundSlot.mk true (segmentBytes (segmentOf 0 true true))][0]? = some ⟨true, segmentBytes (segmentOf 0 true true)⟩) := by
  decide +kernel

theorem witness_InboundArrivalSteps : (inState .run).live ∧ (goodOf (judgeHeader 3 unlockedFrame)) = none := by decide

/-- TEST; RUN with the freshness counter at 22 and at 23, where Tf is 24. -/
theorem witness_FreshnessAndFallback :
    ((inState .test).live ∧ ((inState .test).car 0).control.state = .test) ∧
      (min (22 + 1) 65535 < Control.reset.tf ∧ Control.reset.tf ≤ min (23 + 1) 65535) ∧
      ((inState .run).car 0).control.state = .run ∧ ((inState .hold).car 0).control.state = .hold ∧
      (goodOf (judgeHeader 3 unlockedFrame)).isSome = false := by decide

/-- A bad header; a header of another ladder code; status TEST; and counts 2 and 3 where Na is 4. -/
theorem witness_AcquisitionCountsHeaders :
    ((inState .acquire).live ∧ ((inState .acquire).car 0).control.state = .acquire) ∧
      goodOf (judgeHeader 3 unlockedFrame) = none ∧
      goodOf (judgeHeader 3 (lockedFrame (farBits 2))) = some (goodHeader .run) ∧
      ((goodHeader .run).ladderCode ≠ 0 ∧ (goodHeader .run).ladderCode = ladder3.code ∧ (goodHeader .run).status ≠ .test) ∧
      goodOf (judgeHeader 3 (lockedFrame (farBits 5))) = some (goodHeader .test) ∧
      (2 + 1 < Control.reset.na ∧ Control.reset.na ≤ 3 + 1) := by decide +kernel

theorem witness_RecoveryCountsHeaders :
    ((inState .fallback).live ∧ ((inState .fallback).car 0).control.state = .fallback) ∧
      goodOf (judgeHeader 3 unlockedFrame) = none ∧
      goodOf (judgeHeader 3 (lockedFrame (farBits 3))) = some (goodHeader .fallback) ∧ (goodHeader .fallback).status ≠ .test ∧
      (2 + 1 < Control.reset.na ∧ Control.reset.na ≤ 3 + 1) := by decide +kernel

theorem witness_EstimatorArrival :
    (∀ p ∈ Estimator.reset.curve.toList, p ≤ 400) ∧ (estimatorAt 7680 0).firstSample = false := by decide

/-- The settings of a carrier in a state and a mode. -/
def settings (st : CarrierState) (m : Mode) : Control := { Control.reset with state := st, mode := m }

/-- Every clause at its boundaries with ladder3 (hold thresholds 0, 90, 170; enter thresholds 100, 180) and the window 0 to 2 or 1 to 1: the
profile above, below and in the window, Q one below and at a hold and an enter threshold, the dwell one short of and at Nu. -/
theorem witness_IdleRequesterDecides :
    Requester.reset.state = .idle ∧ ((settings .acquire .adaptive).state ≠ .run ∧ (settings .acquire .adaptive).state ≠ .hold) ∧
      ((settings .run .fixed).state = .run ∧ (settings .run .fixed).mode = .fixed ∧
        (max 1 (min (settings .run .fixed).fixedProfile 1) ≠ (2 : Nat)) ∧ ¬ (max 0 (min (settings .run .fixed).fixedProfile 2) ≠ (0 : Nat))) ∧
      ((settings .hold .adaptive).state = .hold ∧ (settings .hold .adaptive).mode = .adaptive) ∧
      ((1 : Nat) < 2 ∧ (0 : Nat) < 1) ∧
      ((169 : Int) < (ladder3.holdAt 2 : Nat) ∧ ¬ (170 : Int) < (ladder3.holdAt 2 : Nat)) ∧
      ((179 : Int) < ((ladder3.at 2).enter : Nat) ∧ ((ladder3.at 2).enter : Int) ≤ 180) ∧
      (({ Requester.reset with holdOff := 2 } : Requester).holdOff - 1 ≠ 0 ∧ ({ Requester.reset with holdOff := 1 } : Requester).holdOff - 1 = 0) ∧
      (48 + 1 < Requester.reset.nu ∧ Requester.reset.nu ≤ 49 + 1) := by decide

/-- A Requester with a request outstanding, and headers that answer it with each verdict before and at SF. -/
theorem witness_OutstandingRequestAtArrival :
    (let q : Requester := { Requester.reset with state := .requesting ⟨.step, 1⟩, tag := 1 }
     q.state.outstanding = some ⟨.step, 1⟩ ∧ q.state = .requesting ⟨.step, 1⟩ ∧
       (goodHeader .run).verdict = none ∧ (goodHeader .run).ansTag ≠ q.tag ∧
       (let h (v : Verdict) (p : Nat) : RxHeader := { goodHeader .run with verdict := some v, ansTag := 1, profile := p }
        (h .refuse 0).ansTag = q.tag ∧ (h .refuse 0).verdict = some .refuse ∧ (h .busy 0).verdict = some .busy ∧
          (h (.accept 0 9) 0).verdict = some (.accept 0 9) ∧ (0 : Nat) = q.inbound ∧ (1 : Nat) ≠ q.inbound ∧
          reached (h (.accept 1 9) 1).fn 9 = true ∧ reached (h (.accept 1 10) 1).fn 10 = false ∧
          (h (.accept 1 10) 1).profile ≠ q.inbound ∧ (h (.accept 1 10) 0).profile = q.inbound)) ∧
      (let q : Requester := { Requester.reset with state := .pending ⟨.step, 1⟩ 1 10 }
       q.state = .pending ⟨.step, 1⟩ 1 10 ∧ q.state.outstanding = some ⟨.step, 1⟩ ∧ reached (10#12) 10 = true ∧
         reached (9#12) 10 = false) := by decide

/-- R98: with a STEP decided in a window from 0, a floor raised to 2 since then does not bound the superseding downshift. -/
theorem test_superseding_window :
    (({ requesterAt 3 with state := .requesting ⟨.step, 4⟩ } : Requester).arrival referenceLadder (settings .run .adaptive)
      ⟨2, 8, 0, 0⟩ none).2.issued = some ⟨.urgent, 0⟩ := by decide

/-- A bad header, no request, a repeat, and new requests of both kinds, with and without a scheduled switch. -/
theorem witness_SchedulerAnswersRequests :
    (goodHeader .run).request = none ∧
      (let d : Scheduler := { Scheduler.reset with answer := some ⟨1, .busy⟩ }
       let h (tag : Tag) (k : Kind) : RxHeader := { goodHeader .run with request := some ⟨k, 2⟩, reqTag := tag }
       (h 1 .step).request = some ⟨.step, 2⟩ ∧ (∃ a, d.answer = some a ∧ a.tag = (h 1 .step).reqTag) ∧
         (∀ a ∈ d.answer, a.tag ≠ (h 2 .urgent).reqTag) ∧ (h 2 .urgent).request = some ⟨.urgent, 2⟩) ∧
      Scheduler.reset.scheduled = none ∧ ({ Scheduler.reset with scheduled := some ⟨1, 9, 0⟩ } : Scheduler).scheduled ≠ none := by
  refine ⟨by decide, ⟨by decide, ⟨_, rfl, by decide⟩, by decide, by decide⟩, by decide, by decide⟩

theorem witness_TestPatternAndTestFrames :
    ((0 : Nat) < 15 ∧ 0 < 8 * 1) ∧ ((14 : Nat) < 15 ∧ 14 < 8 * 2) ∧ (15 ≤ 15 ∧ (15 : Nat) < 8 * 2) ∧
      ((CarrierState.run ≠ .test) ∧ (goodHeader .test).status = .test ∧ (goodHeader .test).dataCount = 0 ∧
        (goodHeader .test).unreadable = false ∧ ({ goodHeader .test with unreadable := true } : RxHeader).unreadable = true ∧
        ¬ ((goodHeader .run).status = .test ∧ (goodHeader .run).dataCount = 0)) ∧
      ∀ sl ∈ [InboundSlot.mk true (List.replicate 68 0)], sl.bytes.length = 68 := by decide

/-- A capture in a state, of carrier 0 in RUN. -/
def capturing (y : History) : State := { inState .run with history := y }

/-- IDLE and DONE and another carrier; ARMED with a trigger that fires and one that does not; POST; and the last record of each. -/
theorem witness_CaptureRecordsArrival :
    ((1 : CarrierId) ≠ History.reset.carrier ∧ History.reset.state = .idle ∧ doneState.history.state = .done) ∧
      (let y : History := { History.reset with state := .armed }
       (0 : CarrierId) = y.carrier ∧ y.state = .armed ∧ y.trigger = .immediate ∧ y.post ≤ 1 ∧ (capturing y).live ∧
         ((capturing y).car y.carrier).control.state ≠ .off) ∧
      ({ History.reset with state := .armed, trigger := .urgent } : History).trigger = .urgent ∧
      (let y : History := { History.reset with state := .post, post := 2, postRecords := 1 }
       y.state = .post ∧ y.post ≤ y.postRecords + 1 ∧ (capturing y).live ∧ ((capturing y).car y.carrier).control.state ≠ .off) := by
  decide

/-- A window with position 4095 occupied. -/
def farWindow : List (Nat × Slot) := [(4095, .lost)]

/-- UNSYNC; and SYNC at distances 0 and 4,095 into an empty position, 4,095 into an occupied one, 4,096 and 32,767 ahead, 32,768 and 65,535 behind,
with the late run one short of K and at it. -/
theorem witness_SegmentArrivalByDistance :
    (windowOk [] = true ∧ (4095 : Nat) < 4096 ∧ windowAt [] 4095 = none) ∧
      (let s := waitingItem Reseq.reset (.segment (segmentOf 7 true true))
       s.live ∧ (s.car 0).lane.handover = .segment (segmentOf 7 true true) :: [] ∧ s.reseq.synced = false) ∧
      (let s := waitingItem synced (.segment (segmentOf 100 true true))
       s.live ∧ (s.car 0).lane.handover = .segment (segmentOf 100 true true) :: [] ∧ s.reseq.synced = true ∧
         windowAt s.reseq.window 0 = none ∧ windowAt farWindow 4095 ≠ none) ∧
      ([100, 4195, 4196, 32867, 32868, 99].map (fun n : Nat => (BitVec.ofNat 16 n - synced.expected).toNat) =
        [0, 4095, 4096, 32767, 32768, 65535]) ∧
      (synced.lateRun + 1 < synced.k ∧ synced.k ≤ ({ synced with lateRun := 63 } : Reseq).lateRun + 1) := by decide

theorem witness_DeliveryRunsInOrder :
    (let r : Reseq := { synced with window := [(0, .lost), (4095, .lost)] }
     windowOk r.window = true ∧ windowAt r.window 0 = some .lost) ∧
      windowAt synced.window 0 = none ∧ windowOk synced.window = true := by decide

/-- A mark at an empty position, at an occupied one and outside the window; a stopped timer, a timer at 2 and at 1 with a gap of one position. -/
theorem witness_LossMarksAndGaps :
    (let s := waitingItem synced (.loss 100)
     s.live ∧ (s.car 0).lane.handover = .loss 100 :: [] ∧ s.reseq.synced = true ∧ (100 - s.reseq.expected).toNat < 4096 ∧
       windowAt s.reseq.window (100 - s.reseq.expected).toNat = none) ∧
      ¬ (Reseq.reset.synced = true ∧ (0#16 - Reseq.reset.expected).toNat < 4096 ∧ windowAt Reseq.reset.window 0 = none) ∧
      ¬ (4196#16 - synced.expected).toNat < 4096 ∧
      State.reset.reseq.gap = none ∧ (1 : Nat) < 2 ∧ (1 : Nat) ≤ 1 ∧
      (let w : List (Nat × Slot) := [(1, .lost)]
       windowOk w = true ∧ windowAt w 1 = some .lost ∧ ∀ j, j < 1 → windowAt w j = none) := by decide

/-- FIRST with and without a frame in progress; a later segment without one; 149 and 150 segments in progress; a lost position in both. -/
theorem witness_ReassemblyRows :
    (segmentOf 0 true false).first = true ∧ (segmentOf 0 false false).first = false ∧ State.reset.reseq.context = none ∧
      (let r : Reseq := { synced with context := some ⟨149, []⟩ }
       r.context = some ⟨149, []⟩ ∧ r.context ≠ none ∧ (149 : Nat) < 150 ∧ 150 ≤ (150 : Nat)) := by decide

/-- The body of a management frame that carries one command, GET of the gap time, or is a response. -/
def commandBody (flags : Byte) : List Byte :=
  List.replicate 6 0xFF ++ List.replicate 6 0 ++ [0xA3, 0xE1, 1, flags, 1, 5, 9, 0, 2, 21, 0] ++ List.replicate 35 0

/-- The machine with one frame in the input queue. -/
def queued (f : Frame) (x : Option Execution) : State :=
  { State.reset with agent := { Agent.reset with queue := [⟨.site, f⟩], execution := x } }

/-- An empty queue; a malformed frame, a response and a frame of one command at its head; the command, a DEVICE reset and a command of an unknown
code to be run; and none left. -/
theorem witness_ManagementFrameExecution :
    (State.reset.live ∧ State.reset.agent.execution = none ∧ State.reset.agent.queue = []) ∧
      (let s := queued [0] none
       s.live ∧ s.agent.execution = none ∧ s.agent.queue = ⟨.site, [0]⟩ :: [] ∧ ¬ (21 ≤ [0#8].length)) ∧
      (21 ≤ (closed (commandBody 0)).length ∧ byteAt (closed (commandBody 0)) 14 = 1 ∧
        ¬ (byteAt (closed (commandBody 0)) 15).getLsbD 0 = true ∧ (byteAt (closed (commandBody 1)) 15).getLsbD 0 = true ∧
        readCommands (byteAt (closed (commandBody 0)) 16).toNat
          (((closed (commandBody 0)).take ((closed (commandBody 0)).length - 4)).drop 17) = some [⟨5, 9, [21, 0]⟩]) ∧
      decodeCommand 5 [21, 0] = .ok (.get 21 0) ∧ decodeCommand 10 [2] = .ok .resetDevice ∧ decodeCommand 255 [] = .error .unknown ∧
      (let s := queued (closed (commandBody 0)) (some ⟨[⟨5, 9, [21, 0]⟩], []⟩)
       s.live ∧ s.agent.execution = some ⟨⟨5, 9, [21, 0]⟩ :: [], []⟩) ∧
      (let s := queued (closed (commandBody 0)) (some ⟨[], []⟩)
       s.live ∧ s.agent.execution = some ⟨[], []⟩ ∧ s.agent.queue = ⟨.site, closed (commandBody 0)⟩ :: []) :=
  ⟨by decide, by decide, by decide +kernel, by decide, by decide, by decide, by decide, ⟨by decide, rfl, rfl⟩⟩

/-- Carrier 0 in RUN with an outbound frame start in front of the queue. -/
def aboutToStart : State := (inState .run).withPending [.outboundFrameStart 0]

/-- The device after reset with a traffic reset in front of the queue. -/
def aboutToReset : State := State.reset.withPending [.resetTraffic]

/-- A fill being carried out with a FILL in front of the queue that makes one draw. -/
def aboutToDraw : State := State.withPending { filling with drawPlan := [1] } [.fill]

/-- A state with a fill being carried out, one in which carriers stand filled ahead, and the device after reset. -/
theorem witness_StepKeepsStoreForms :
    (aboutToReset.storesOk ∧ ∃ t, step aboutToReset = .next t) ∧ (aboutToStart.storesOk ∧ ∃ t, step aboutToStart = .next t) ∧
      aboutToDraw.storesOk ∧ ∃ t, step aboutToDraw = .next t :=
  ⟨⟨by decide, _, rfl⟩, ⟨by decide, _, rfl⟩, by decide, _, rfl⟩

theorem witness_StepKeepsLeadLockAndSwitches :
    (aboutToReset.lanesOk ∧ ∃ t, step aboutToReset = .next t) ∧ (aboutToStart.lanesOk ∧ ∃ t, step aboutToStart = .next t) ∧
      aboutToDraw.lanesOk ∧ ∃ t, step aboutToDraw = .next t :=
  ⟨⟨by decide, _, rfl⟩, ⟨by decide, _, rfl⟩, by decide, _, rfl⟩

theorem witness_StepKeepsSettingsAndLevels :
    (∃ t, step aboutToStart = .next t) ∧ aboutToStart.settingsOk ∧ aboutToStart.levelsOk :=
  ⟨⟨_, rfl⟩, by decide, by decide⟩

theorem witness_NoStepStops : aboutToStart.lanesOk ∧ aboutToDraw.lanesOk ∧ State.reset.lanesOk := ⟨by decide, by decide, by decide⟩

end Sys2Proof.Tests
end

section
/-! PROOFS. The Quality Estimator (Chapter 3): the floors of its interpolation and of its shifts, the bounds of each stage, and O45. -/

namespace Sys2Proof.Machine

/-! ### Floors -/

/-- The rounded part f/64 of a difference lies between 0 and the difference (R44, the remark on the added term). -/
theorem interpolated_between (d : Int) (f : Nat) (hf : f < 64) :
    min 0 d ≤ (d * f + 32) / 64 ∧ (d * f + 32) / 64 ≤ max 0 d := by
  have hf0 : (0 : Int) ≤ f := by omega
  have hf63 : (f : Int) ≤ 63 := by omega
  rcases Int.le_total 0 d with hd | hd
  · have low : 0 ≤ d * f := Int.mul_nonneg hd hf0
    have high : d * f ≤ d * 63 := Int.mul_le_mul_of_nonneg_left hf63 hd
    omega
  · have low : d * 63 ≤ d * f := Int.mul_le_mul_of_nonpos_left hd hf63
    have high : d * f ≤ 0 := Int.mul_nonpos_of_nonpos_of_nonneg hd hf0
    omega

/-- A rise that is shifted down stays a rise and does not pass the whole (R47, the rising branch). -/
theorem floorShift_between_of_nonneg (d : Int) (n : Nat) (hd : 0 ≤ d) : 0 ≤ floorShift d n ∧ floorShift d n ≤ d :=
  ⟨Int.ediv_nonneg hd (Int.natCast_nonneg _), Int.ediv_le_self _ hd⟩

/-- A fall that is shifted down stays a fall and does not pass the whole (R47, the falling branch). -/
theorem floorShift_between_of_neg (d : Int) (n : Nat) (hd : d < 0) : d ≤ floorShift d n ∧ floorShift d n < 0 := by
  have hp : (0 : Int) < (2 ^ n : Nat) := by exact_mod_cast Nat.two_pow_pos n
  refine ⟨(Int.le_ediv_iff_mul_le hp).2 ?_, Int.ediv_neg_of_neg_of_pos hd hp⟩
  have h1 : (1 : Int) ≤ (2 ^ n : Nat) := hp
  simpa using Int.mul_le_mul_of_nonpos_left (Int.le_of_lt hd) h1

/-! ### Stage 1: calibration (R44) -/

/-- A table whose entries keep a bound reads within it at every index, also past its end when the default keeps it. -/
theorem tableAt_le {n b : Nat} (v : Vector Nat n) (i d : Nat) (hv : ∀ p ∈ v.toList, p ≤ b) (hd : d ≤ b) : tableAt v i d ≤ b := by
  unfold tableAt
  by_cases hi : i < n
  · simpa [hi] using hv v[i] (by simp)
  · simpa [hi] using hd

/-- A point of a curve within 400 lies from 0 to 400 (R43). -/
theorem Estimator.point_range (e : Estimator) (i : Nat) (hc : ∀ p ∈ e.curve.toList, p ≤ 400) : 0 ≤ e.point i ∧ e.point i ≤ 400 := by
  have : tableAt e.curve i 0 ≤ 400 := tableAt_le e.curve i 0 hc (Nat.zero_le _)
  simp only [Estimator.point]
  omega

/-- The calibrated sample lies between the two points of its interval, whatever the shape of the curve. -/
theorem Estimator.calibrate_between (e : Estimator) (x : Nat) :
    min (e.point (min x 1023 / 64)) (e.point (min x 1023 / 64 + 1)) ≤ e.calibrate x ∧
      e.calibrate x ≤ max (e.point (min x 1023 / 64)) (e.point (min x 1023 / 64 + 1)) := by
  have := interpolated_between (e.point (min x 1023 / 64 + 1) - e.point (min x 1023 / 64)) (min x 1023 % 64)
    (Nat.mod_lt _ (by decide))
  simp only [Estimator.calibrate]
  omega

/-! ### Stage 2: penalty and loss of lock (R45) -/

/-- Stage 2 gives 0, or at most the calibrated sample. -/
theorem Estimator.penalise_between (e : Estimator) (lock : Bool) (x b : Nat) :
    0 ≤ e.penalise lock x b ∧ e.penalise lock x b ≤ max 0 (e.calibrate x) := by
  have hpb : (0 : Int) ≤ e.pb * b := Int.mul_nonneg (Int.natCast_nonneg _) (Int.natCast_nonneg _)
  unfold Estimator.penalise
  split <;> omega

/-- With a curve within 400 the penalised sample lies from 0 to 400. -/
theorem Estimator.penalise_range (e : Estimator) (lock : Bool) (x b : Nat) (hc : ∀ p ∈ e.curve.toList, p ≤ 400) :
    0 ≤ e.penalise lock x b ∧ e.penalise lock x b ≤ 400 := by
  have penalised := e.penalise_between lock x b
  have calibrated := e.calibrate_between x
  have left := e.point_range (min x 1023 / 64) hc
  have right := e.point_range (min x 1023 / 64 + 1) hc
  omega

/-! ### Stage 4: the level filter (R47) -/

/-- The filter's branch told by the target and the level themselves. -/
theorem Estimator.filter_eq (e : Estimator) (sample : Int) :
    e.filter sample =
      if 32 * sample < e.level then e.level + floorShift (32 * sample - e.level) e.ad
      else e.level + floorShift (32 * sample - e.level) e.au := by
  simp only [Estimator.filter, sub_neg]

/-- The new level lies between the old one and the target, in the falling and in the rising branch. -/
theorem Estimator.filter_between (e : Estimator) (sample : Int) :
    min e.level (32 * sample) ≤ e.filter sample ∧ e.filter sample ≤ max e.level (32 * sample) := by
  rw [Estimator.filter_eq]
  split
  · have fall := floorShift_between_of_neg (32 * sample - e.level) e.ad (by omega)
    omega
  · have rise := floorShift_between_of_nonneg (32 * sample - e.level) e.au (by omega)
    omega

/-! ### The whole arrival -/

/-- A first sample skips stages 4 and 5 (R46). -/
theorem Estimator.arrival_of_firstSample (e : Estimator) (f : InboundFrame) (h : e.firstSample = true) :
    e.arrival f = e.decide (32 * e.penalise f.lock f.x f.b) 0 := by
  simp only [Estimator.arrival, Estimator.take, h, if_true]

/-- Any later sample passes stages 4 and 5 (R42). -/
theorem Estimator.arrival_of_laterSample (e : Estimator) (f : InboundFrame) (h : e.firstSample = false) :
    e.arrival f = e.decide (e.filter (e.penalise f.lock f.x f.b)) (e.steepen (e.filter (e.penalise f.lock f.x f.b))) := by
  simp only [Estimator.arrival, Estimator.take, h, Bool.false_eq_true, if_false]

/-- Settles O45: the four values are those of the stages, and the bounds are those of stages 1, 2 and 4. -/
theorem estimatorArrival : Obligations.EstimatorArrival := by
  intro e f x point left right calibrated sample target level slope predicted
  have level_later (h : e.firstSample = false) : level = e.filter sample := by
    simp only [level, h, Bool.false_eq_true, if_false]
    exact (e.filter_eq sample).symm
  refine ⟨?_, e.calibrate_between f.x, e.penalise_range f.lock f.x f.b, fun h => ?_⟩
  · cases h : e.firstSample with
    | true =>
      have hlevel : level = target := by simp only [level, h, if_true]
      have hslope : slope = 0 := by simp only [slope, h, if_true]
      rw [e.arrival_of_firstSample f h]
      simp only [predicted, hlevel, hslope]
      rfl
    | false =>
      have hslope : slope = e.steepen level := by
        simp only [slope, h, Bool.false_eq_true, if_false]
        rfl
      rw [e.arrival_of_laterSample f h]
      simp only [predicted, hslope, level_later h]
      rfl
  · rw [level_later h]
    exact e.filter_between sample

end Sys2Proof.Machine
end

section
/-! PROOFS. A write of the ladder length (R61): what the write makes of each start and list of values, the failing ENABLE of an empty
ladder (R64, check 1), and O14. -/

namespace Sys2Proof.Machine

/-! ### The carrier after a length is stored -/

/-- A carrier with a new ladder length and the code computed anew over it (R61, R63). -/
def Carrier.withLadderLength (k : Carrier) (n : Nat) : Carrier := { k with ladder := { k.ladder with length := n }.recode }

@[simp] theorem Carrier.withLadderLength_control (k : Carrier) (n : Nat) : (k.withLadderLength n).control = k.control := rfl

@[simp] theorem Carrier.withLadderLength_length (k : Carrier) (n : Nat) : (k.withLadderLength n).ladder.length = n := rfl

@[simp] theorem State.car_returned (s : State) (r : Reply) (c : CarrierId) : (s.returned r).car c = s.car c :=
  State.car_congr (State.returned_carriers s r) c

/-! ### The write, case by case -/

section
variable {s : State} {c : CarrierId} {b : Byte}

theorem runWriteLadderLength_locked (hb : b.toNat = c.val) (hst : (s.car c).control.state ≠ .off) (start : Byte) (l : List Byte) :
    runWriteLadderLength b start l s = refuse .locked s := by
  rw [runWriteLadderLength, withCarrier_some (carrierOf_of_val hb)]
  exact if_pos hst

/-- In OFF the start is looked at before the number of values; both refusals are RANGE. -/
theorem runWriteLadderLength_range (hb : b.toNat = c.val) (hst : (s.car c).control.state = .off) {start : Byte} {l : List Byte}
    (hr : start ≠ 0 ∨ 2 ≤ l.length) : runWriteLadderLength b start l s = refuse .range s := by
  rw [runWriteLadderLength, withCarrier_some (carrierOf_of_val hb)]
  by_cases h0 : start = 0
  · have two : 2 ≤ l.length := hr.resolve_left (fun hne => hne h0)
    match l, two with
    | _ :: _ :: _, _ => simp [hst, h0]
  · have hne : start.toNat ≠ 0 := fun h => h0 (BitVec.eq_of_toNat_eq h)
    simp [hst, hne]

theorem runWriteLadderLength_noValue (hb : b.toNat = c.val) (hst : (s.car c).control.state = .off) :
    runWriteLadderLength b 0 [] s = answer .ok [] s := by
  simp [runWriteLadderLength, withCarrier_some (carrierOf_of_val hb), hst]

theorem runWriteLadderLength_oneValue (hb : b.toNat = c.val) (hst : (s.car c).control.state = .off) (v : Byte) :
    runWriteLadderLength b 0 [v] s =
      answer (okOrClamped (decide (12 < v.toNat))) [] (s.setCar c ((s.car c).withLadderLength (min v.toNat 12))) := by
  simp [runWriteLadderLength, withCarrier_some (carrierOf_of_val hb), hst, Carrier.withLadderLength]

/-- The result of a value that has an upper bound alone (R172). -/
theorem okOrClamped_above (n v : Nat) : okOrClamped (decide (n < v)) = if v ≤ n then .ok else .clamped := by
  by_cases h : v ≤ n
  · simp [okOrClamped, h, Nat.not_lt.mpr h]
  · simp [okOrClamped, h, Nat.lt_of_not_le h]

/-- The command row: the write's own rule, its reply kept. -/
theorem exec_tableWriteLadderLength (hs : s.live) (start : Byte) (l : List Byte) {r : Result} {data : List Byte} {t : State}
    (h : runWriteLadderLength b start l s = answer r data t) :
    exec (.tableWriteLadderLength b start l) s = .next (t.returned ⟨r, data⟩) := by
  have runs := aloneAnswer_runs hs (x := .writeLadderLength b start l) (Nat.zero_le _)
  rw [runCommand, h] at runs
  exact runs

/-! ### ENABLE of an empty ladder -/

/-- A ladder of length 0 fails check 1 of R64, with index 0. -/
theorem Ladder.validate_of_empty {l : Ladder} (h : l.length = 0) : l.validate = some (1, 0) := by
  simp [Ladder.validate, h]

theorem runEnable_of_emptyLadder (hb : b.toNat = c.val) (hst : (s.car c).control.state = .off) (hl : (s.car c).ladder.length = 0) :
    runEnable b s = answer .ladder [1, 0] s := by
  rw [runEnable, withCarrier_some (carrierOf_of_val hb)]
  simp only [hst, Ladder.validate_of_empty hl, ne_eq, not_true_eq_false, if_false]
  rfl

theorem exec_carrierEnable_of_emptyLadder (hs : s.live) (hb : b.toNat = c.val) (hst : (s.car c).control.state = .off)
    (hl : (s.car c).ladder.length = 0) : exec (.carrierEnable b) s = .next (s.returned ⟨.ladder, [1, 0]⟩) := by
  have fails := runEnable_of_emptyLadder hb hst hl
  have fits : successLength (.enable b) s ≤ 1492 := by
    rw [successLength, fails]
    exact (by decide : 2 ≤ 1492)
  have runs := aloneAnswer_runs hs fits
  rw [runCommand, fails] at runs
  exact runs

end

/-- Settles O14: each case of the write is its own lemma, and a length of 0 leaves a carrier in OFF with an empty ladder. -/
theorem ladderLengthWrite : Obligations.LadderLengthWrite := by
  intro s c b start l hs hb k
  refine ⟨fun hst => ?locked, fun hst hr => ?range, fun hst => ?noValue, ?oneValue⟩
  case locked => exact exec_tableWriteLadderLength hs start l (runWriteLadderLength_locked hb hst start l)
  case range => exact exec_tableWriteLadderLength hs start l (runWriteLadderLength_range hb hst hr)
  case noValue => exact exec_tableWriteLadderLength hs 0 [] (runWriteLadderLength_noValue hb hst)
  case oneValue =>
    intro v hst n t
    have ht : t = (s.setCar c (k.withLadderLength n)).returned ⟨if v.toNat ≤ 12 then .ok else .clamped, []⟩ := rfl
    have stored := runWriteLadderLength_oneValue hb hst v
    rw [okOrClamped_above] at stored
    refine ⟨exec_tableWriteLadderLength hs 0 [v] stored, fun hv => ?_⟩
    have hn : n = 0 := by simp [n, hv]
    have carrier : t.car c = k.withLadderLength 0 := by rw [ht, hn]; simp
    exact exec_carrierEnable_of_emptyLadder (s := t) hs hb (by simpa [carrier] using hst) (by simp [carrier])

end Sys2Proof.Machine
end

section
/-! PROOFS. The Switch Scheduler at an inbound arrival: the last answer forgotten (R87), which requests are taken (R88), the four rows of
R89 with the record of R90, and O48. -/

namespace Sys2Proof.Machine

section
variable (d : Scheduler)

/-! ### The last answer forgotten, and a request that is new (R87, R88) -/

/-- Only the last answer depends on the status. -/
theorem Scheduler.forget_eq (h : RxHeader) :
    d.forget h = { d with answer := if h.status = .acquire then none else d.answer } := by
  unfold Scheduler.forget
  split <;> rfl

/-- A request is new when its tag is that of no last answer. -/
theorem Scheduler.isNew_iff (tag : Tag) : d.isNew tag = true ↔ ∀ a, d.answer = some a → a.tag ≠ tag := by
  unfold Scheduler.isNew
  cases d.answer <;> simp

/-- A request that carries the last answer's tag is a repeat. -/
theorem Scheduler.isNew_of_repeat {tag : Tag} {a : AnswerRecord} (ha : d.answer = some a) (ht : a.tag = tag) :
    d.isNew tag = false := by
  simp [Scheduler.isNew, ha, ht]

/-! ### The rows of R89 -/

/-- The switch of an ACCEPT: none where the granted profile is already the outbound one. -/
theorem Scheduler.schedule_eq (g : Nat) (sf : FrameNo) (tag : Tag) :
    d.schedule g sf tag = { d with scheduled := if g = d.outbound then d.scheduled else some ⟨g, sf, tag⟩ } := by
  unfold Scheduler.schedule
  split <;> rfl

section
variable (nf : FrameNo) (ceil : Nat) (r : Request) (tag : Tag)

theorem Scheduler.answerRequest_notRunning :
    d.answerRequest false nf ceil r tag =
      { d with requestsTaken := bump d.requestsTaken, answer := some ⟨tag, .refuse⟩, refuseSent := bump d.refuseSent } := rfl

theorem Scheduler.answerRequest_urgent (hr : r.kind = .urgent) :
    d.answerRequest true nf ceil r tag =
      { d with
        requestsTaken := bump d.requestsTaken
        answer := some ⟨tag, .accept (min r.target ceil) nf⟩, acceptSent := bump d.acceptSent
        scheduled := if min r.target ceil = d.outbound then none else some ⟨min r.target ceil, nf, tag⟩ } := by
  simp [Scheduler.answerRequest, hr, Scheduler.schedule_eq, Scheduler.record]

theorem Scheduler.answerRequest_step_of_scheduled (hr : r.kind = .step) (hs : d.scheduled ≠ none) :
    d.answerRequest true nf ceil r tag =
      { d with requestsTaken := bump d.requestsTaken, answer := some ⟨tag, .busy⟩, busySent := bump d.busySent } := by
  simp [Scheduler.answerRequest, hr, Option.isSome_iff_ne_none.2 hs, Scheduler.record]

theorem Scheduler.answerRequest_step_of_none (hr : r.kind = .step) (hs : d.scheduled = none) :
    d.answerRequest true nf ceil r tag =
      { d with
        requestsTaken := bump d.requestsTaken
        answer := some ⟨tag, .accept (min r.target ceil) (nf + BitVec.ofNat 12 d.ds)⟩, acceptSent := bump d.acceptSent
        scheduled :=
          if min r.target ceil = d.outbound then none else some ⟨min r.target ceil, nf + BitVec.ofNat 12 d.ds, tag⟩ } := by
  simp [Scheduler.answerRequest, hr, hs, Scheduler.schedule_eq, Scheduler.record]

end

/-! ### The whole arrival -/

section
variable (running : Bool) (nf : FrameNo) (ceil : Nat) {h : RxHeader} {r : Request}

theorem Scheduler.arrival_noRequest (hq : h.request = none) : d.arrival running nf ceil (some h) = d.forget h := by
  simp [Scheduler.arrival, hq]

theorem Scheduler.arrival_repeat (hq : h.request = some r) (hn : (d.forget h).isNew h.reqTag = false) :
    d.arrival running nf ceil (some h) = d.forget h := by
  simp [Scheduler.arrival, hq, hn]

theorem Scheduler.arrival_new (hq : h.request = some r) (hn : (d.forget h).isNew h.reqTag = true) :
    d.arrival running nf ceil (some h) = (d.forget h).answerRequest running nf ceil r h.reqTag := by
  simp [Scheduler.arrival, hq, hn]

end

end

/-- Settles O48: the Scheduler after R87 is `d0`; a request that is new there is answered by the first row of R89 that applies. -/
theorem schedulerAnswersRequests : Obligations.SchedulerAnswersRequests := by
  intro d running nf ceil
  refine ⟨rfl, ?_⟩
  intro h d0 t
  have forgotten : d.forget h = d0 := d.forget_eq h
  refine ⟨fun hq => (d.arrival_noRequest running nf ceil hq).trans forgotten, ?_⟩
  intro r hq g taken
  refine ⟨?repeated, ?new⟩
  case repeated =>
    intro a ha ht
    have old : (d.forget h).isNew h.reqTag = false := by rw [forgotten]; exact d0.isNew_of_repeat ha ht
    exact (d.arrival_repeat running nf ceil hq old).trans forgotten
  case new =>
    intro hnew
    have new : (d.forget h).isNew h.reqTag = true := by rw [forgotten]; exact (d0.isNew_iff h.reqTag).2 hnew
    have answered : t = d0.answerRequest running nf ceil r h.reqTag := forgotten ▸ d.arrival_new running nf ceil hq new
    rw [answered]
    refine ⟨?notRunning, ?urgent, ?busy, ?step⟩
    case notRunning =>
      rintro rfl
      exact d0.answerRequest_notRunning nf ceil r h.reqTag
    case urgent =>
      rintro rfl hk
      exact d0.answerRequest_urgent nf ceil r h.reqTag hk
    case busy =>
      rintro rfl hk hs
      exact d0.answerRequest_step_of_scheduled nf ceil r h.reqTag hk hs
    case step =>
      rintro rfl hk hs
      exact d0.answerRequest_step_of_none nf ceil r h.reqTag hk hs

end Sys2Proof.Machine
end

section
/-! PROOFS. The Flow Classifier (section 6.2): the tag the bytes of a frame hold (R105), when an entry takes a frame (R107), what the first
entry that takes it and a table without one make of it (R108), and O34. -/

namespace Sys2Proof.Machine

/-! ### The tag of a frame (R105) -/

theorem word16_eq_append_iff (a b c d : Byte) : word16 a b = c ++ d ↔ a = c ∧ b = d := by
  constructor
  · intro h
    have high := congrArg (BitVec.extractLsb' 8 8) h
    have low := congrArg (BitVec.extractLsb' 0 8) h
    simp only [word16, extract_append_high, extract_append_low] at high low
    exact ⟨high, low⟩
  · rintro ⟨rfl, rfl⟩
    rfl

/-- The bytes that mark a frame as tagged. -/
abbrev frameTagged (f : Frame) : Prop := byteAt f 12 = 0x81 ∧ byteAt f 13 = 0x00

/-- The VLAN number a tagged frame holds. -/
def frameVlan (f : Frame) : Nat := (byteAt f 14).toNat % 16 * 256 + (byteAt f 15).toNat

/-- The priority a tagged frame holds. -/
def framePrio (f : Frame) : Nat := (byteAt f 14).toNat / 32

/-- The four low bits of one byte in front of another byte. -/
theorem lowNibble_append_toNat (a b : Byte) : (a.extractLsb' 0 4 ++ b).toNat = a.toNat % 16 * 256 + b.toNat := by
  rw [BitVec.toNat_append, ← Nat.shiftLeft_add_eq_or_of_lt b.isLt, Nat.shiftLeft_eq]
  simp [BitVec.extractLsb'_toNat]

/-- The three high bits of a byte. -/
theorem topThree_toNat (a : Byte) : (a.extractLsb' 5 3).toNat = a.toNat / 32 := by
  rw [BitVec.extractLsb'_toNat, Nat.shiftRight_eq_div_pow]
  omega

theorem readTag_eq (f : Frame) : readTag f = if frameTagged f then some ⟨frameVlan f, framePrio f⟩ else none := by
  have marked : word16 (byteAt f 12) (byteAt f 13) = BitVec.ofNat 16 Config.vlanTagId ↔ frameTagged f :=
    word16_eq_append_iff _ _ 0x81 0x00
  simp only [readTag, marked, lowNibble_append_toNat, topThree_toNat, frameVlan, framePrio]

/-! ### The entries that take a frame (R107) -/

/-- The entry matches the frame: valid, ranges not inverted, of the kind of the frame, with the values of a tagged frame in range. -/
def FlowEntry.Takes (e : FlowEntry) (f : Frame) : Prop :=
  e.valid = true ∧ e.vlanLow ≤ e.vlanHigh ∧ e.prioLow ≤ e.prioHigh ∧
    if frameTagged f then
      e.tagMatch ≠ .untagged ∧ e.vlanLow ≤ frameVlan f ∧ frameVlan f ≤ e.vlanHigh ∧ e.prioLow ≤ framePrio f ∧
        framePrio f ≤ e.prioHigh
    else e.tagMatch ≠ .tagged

theorem FlowEntry.hits?_readTag_iff (e : FlowEntry) (f : Frame) : e.hits? (readTag f) = true ↔ e.Takes f := by
  rw [readTag_eq, FlowEntry.Takes]
  split_ifs <;> simp only [FlowEntry.hits?, Bool.and_eq_true, decide_eq_true_eq, and_assoc]

theorem FlowEntry.hits?_readTag_eq_false {e : FlowEntry} {f : Frame} (h : ¬ e.Takes f) : e.hits? (readTag f) = false :=
  Bool.eq_false_iff.2 fun hit => h ((e.hits?_readTag_iff f).1 hit)

/-! ### The decision (R108) -/

/-- A hit is counted at its own entry alone; the index is one of the table. -/
theorem Classifier.countHit_eq (x : Classifier) (i : Fin 64) (e : FlowEntry) :
    x.countHit i e = { x with table := x.table.set i { e with hits := bump e.hits } } := by
  simp [Classifier.countHit, Vector.setIfInBounds, Vector.set, Array.setIfInBounds]

section
variable {s : State} {f : Frame}

/-- The lowest entry that takes the frame decides it. -/
theorem State.classify_of_firstTaking {i : Fin 64} (hi : s.classifier.table[i].Takes f)
    (before : ∀ j : Fin 64, j < i → ¬ s.classifier.table[j].Takes f) :
    s.classify f =
      match s.classifier.table[i].action with
      | .cls =>
        { s with classifier := s.classifier.countHit i s.classifier.table[i] }.admitFrame s.classifier.table[i].cls f
      | .drop =>
        { s with
          classifier := { s.classifier.countHit i s.classifier.table[i] with drops := bump s.classifier.drops } } := by
  have found : firstHit (readTag f) 0 s.classifier.table.toList = some (i.val, s.classifier.table[i]) := by
    have search := firstHit_some (readTag f) s.classifier.table.toList 0 i (by simp)
      (by simpa using (FlowEntry.hits?_readTag_iff _ f).2 hi)
      (fun j hj hji => by
        have inTable : j < 64 := by simpa using hj
        simpa using FlowEntry.hits?_readTag_eq_false (before ⟨j, inTable⟩ hji))
    simpa using search
  simp only [State.classify, found]
  cases s.classifier.table[i].action <;> rfl

/-- Without an entry that takes the frame, the default class does. -/
theorem State.classify_of_noneTaking (h : ∀ i : Fin 64, ¬ s.classifier.table[i].Takes f) :
    s.classify f =
      { s with classifier := { s.classifier with defaultFrames := bump s.classifier.defaultFrames } }.admitFrame
        s.classifier.defaultClass f := by
  have searched : firstHit (readTag f) 0 s.classifier.table.toList = none := by
    refine firstHit_none _ _ _ fun e he => ?_
    obtain ⟨j, hj, rfl⟩ := List.getElem_of_mem he
    have inTable : j < 64 := by simpa using hj
    simpa using FlowEntry.hits?_readTag_eq_false (h ⟨j, inTable⟩)
  simp only [State.classify, searched]

/-- A frame that passes the checks of R101 and is not the Agent's is counted and classified. -/
theorem exec_ingressFrameArrival_classified (hs : s.live) (hf : fcsGood f = true) (hmin : 64 ≤ f.length)
    (hmax : f.length ≤ 9600) (hr : s.agent.recognises f = false) :
    exec (.ingressFrameArrival ⟨f, true⟩) s =
      .next (State.classify { s with site := { s.site with accepted := bump s.site.accepted } } f) := by
  have notShort : ¬ f.length < Config.minFrame := Nat.not_lt.2 hmin
  have notLong : ¬ Config.maxFrame < f.length := Nat.not_lt.2 hmax
  have passes : s.ingress f = s.acceptIngress f := by simp [State.ingress, hf, notShort, notLong]
  calc exec (.ingressFrameArrival ⟨f, true⟩) s = .next (s.ingress f) := State.unlessHeld_live hs _
    _ = .next (s.acceptIngress f) := by rw [passes]
    _ = _ := by simp [State.acceptIngress, hr]

end

/-- Settles O34: the arrival is counted and classified, and the classification is that of the first entry that takes the frame. -/
theorem flowTableDecides : Obligations.FlowTableDecides := by
  intro s f hs hf hmin hmax hr x tagged vlan prio takes s1
  have arrival : exec (.ingressFrameArrival ⟨f, true⟩) s = .next (s1.classify f) :=
    exec_ingressFrameArrival_classified hs hf hmin hmax hr
  refine ⟨?firstTaking, ?noneTaking⟩
  case firstTaking =>
    intro i hi before e hit
    have counted : s1.classifier.countHit i s1.classifier.table[i] = { x with table := hit } := x.countHit_eq i e
    have decided := State.classify_of_firstTaking (s := s1) (f := f) hi before
    rw [counted] at decided
    refine arrival.trans (congrArg Host.Outcome.next (decided.trans ?_))
    cases e.action <;> rfl
  case noneTaking =>
    intro h
    exact arrival.trans (congrArg Host.Outcome.next (State.classify_of_noneTaking (s := s1) (f := f) h))

end Sys2Proof.Machine
end

section
/-! PROOFS. LATCH_CLEAR (R181): what the clearing leaves of each position and each latch, the command row, and O29. -/

namespace Sys2Proof.Machine

/-! ### The latches after a clearing -/

/-- Of the mask, the 21 positions that hold a latch count alone. -/
theorem Alert.clear_latches_getLsbD (a : Alert) (mask : BitVec 32) {i : Nat} (h : i < 21) :
    (a.clear mask).latches.getLsbD i = (a.latches.getLsbD i && !mask.getLsbD i) := by
  simp [Alert.clear, h]

/-- A latch stays set exactly where the mask does not name it. -/
theorem Alert.isSet_clear (a : Alert) (mask : BitVec 32) (l : Latch) :
    (a.clear mask).isSet l = (a.isSet l && !mask.getLsbD l.bit) :=
  a.clear_latches_getLsbD mask l.bit_lt

/-! ### The command row -/

/-- The data are the latches of the state the command finds, and its four bytes always fit. -/
theorem exec_latchClear {s : State} (hs : s.live) (mask : BitVec 32) :
    exec (.latchClear mask) s =
      .next (State.returned { s with alert := s.alert.clear mask } ⟨.ok, be32 s.alert.latches.toNat⟩) :=
  aloneAnswer_runs hs (x := .latchClear mask) (show (4 : Nat) ≤ 1492 by decide)

/-- Settles O29: the latches after the command are those of the clearing, which a later signal can set again. -/
theorem latchClear : Obligations.LatchClear := by
  intro s mask hs
  refine ⟨(s.alert.clear mask).latches, ?row, ?positions, ?latches⟩
  case row => exact exec_latchClear hs mask
  case positions => exact fun i hi => s.alert.clear_latches_getLsbD mask hi
  case latches => exact fun l => ⟨s.alert.isSet_clear mask l, (s.alert.clear mask).isSet_raise_same l⟩

end Sys2Proof.Machine
end


section
/-! PROOFS. What one command of the queue can do, said once: the events of the block, the effects of a command of a management frame, and
the operations that the Resequencer's events are made of. -/

namespace Sys2Proof.Machine

/-! ### The events of the block -/

/-- What one command of the queue makes of the state: the operation of the block that it runs, whole. -/
inductive State.Event (s : State) : State → Prop
  | idle : s.Event s
  | start (c : CarrierId) (m : ModemFrame) (r : FillRecord) (on : (s.car c).control.state ≠ .off)
      (held : ((s.beforeStart c).car c).lane.recordOf (((s.beforeStart c).car c).lane.outCounter + 1) = some r) :
      s.Event (((s.beforeStart c).setCar c
        (((s.beforeStart c).car c).started (((s.beforeStart c).car c).lane.outCounter + 1))).toModem c m)
  | fill : s.Event s.fill
  | fillNext : s.Event s.fillNext
  | arrival (c : CarrierId) (f : InboundFrame) (taken : Nat) : s.Event (s.arrive c f taken)
  | item (c : CarrierId) (i : Item) : s.Event ((s.dropItem c).takeItem i)
  | tick : s.Event s.tick
  | ingress (f : Frame) : s.Event (s.ingress f)
  | frame (run : Nat) : s.Event (s.executeFrame run)
  | command (x : Command) : s.Event (s.runAlone x)
  | reset (p : Pins) : s.Event (State.deviceReset { s with pins := p })
  | release (p : Pins) : s.Event { s with pins := p }

/-- An event that RESET can hold back comes about or changes nothing. -/
theorem State.unlessHeld_cases {s t : State} {f : State → State} (h : s.unlessHeld f = .next t) : t = s ∨ t = f s := by
  simp only [State.unlessHeld, Host.Outcome.next.injEq] at h
  subst h
  split
  · exact .inl rfl
  · exact .inr rfl

theorem State.Event.of_unlessHeld {s t : State} {f : State → State} (hf : s.Event (f s)) (h : s.unlessHeld f = .next t) :
    s.Event t := by
  rcases State.unlessHeld_cases h with rfl | rfl
  · exact .idle
  · exact hf

/-- A row that names what comes about inside another event is that event, or changes nothing. -/
theorem State.Event.of_ite {s t : State} {p : Prop} [Decidable p] (h : s.Event t) : s.Event (if p then t else s) := by
  split
  · exact h
  · exact .idle

/-- An outbound start that does not fault is ignored or sends the record held. -/
theorem State.Event.of_outboundStart {s t : State} {c : CarrierId} (h : s.outboundStart c = .next t) : s.Event t := by
  unfold State.outboundStart at h
  split at h
  · cases h; exact .idle
  · split at h
    · cases h; exact .idle
    · rename_i on
      simp only [State.startFrame] at h
      split at h
      · cases h
      · rename_i held
        cases h
        exact .start c _ _ on held

theorem exec_event {i : Instr} {s t : State} (h : exec i s = .next t) : s.Event t := by
  cases i
  case outboundFrameStart => exact .of_outboundStart h
  case requestTimerExpiry c =>
    simp only [exec, execRequestTimerExpiry] at h
    split at h
    · exact .of_outboundStart h
    · cases h; exact .idle
  case fill => exact .of_unlessHeld .fill h
  case sweepStep => exact .of_unlessHeld (f := fun s => if s.nextFillReaches then s.fillNext else s) (.of_ite .fillNext) h
  case inboundFrameArrival c f n => exact .of_unlessHeld (f := fun s => s.arrive c f n) (.arrival c f n) h
  case fallbackEntry c f n => exact .of_unlessHeld (by exact .of_ite (.arrival c f n)) h
  case acquisition c f n => exact .of_unlessHeld (by exact .of_ite (.arrival c f n)) h
  case recovery c f n => exact .of_unlessHeld (by exact .of_ite (.arrival c f n)) h
  case captureDone c f n => exact .of_unlessHeld (by exact .of_ite (.arrival c f n)) h
  case segmentArrival c =>
    simp only [exec, execSegmentArrival] at h
    refine .of_unlessHeld ?_ h
    split
    · exact .item c (.segment _)
    · exact .idle
  case lossMark c =>
    simp only [exec, execLossMark] at h
    refine .of_unlessHeld ?_ h
    split
    · exact .item c (.loss _)
    · exact .idle
  case lateResync c =>
    simp only [exec, execLateResync] at h
    refine .of_unlessHeld ?_ h
    split
    · exact .of_ite (.item c (.segment _))
    · exact .idle
  case tick => exact .of_unlessHeld .tick h
  case gapExpiry => exact .of_unlessHeld (f := fun s => if s.reseq.expiresNext then s.tick else s) (.of_ite .tick) h
  case ingressFrameArrival f =>
    exact .of_unlessHeld (f := fun s => if f.whole then s.ingress f.bytes else s) (.of_ite (.ingress _)) h
  case managementFrameExecution n => exact .of_unlessHeld (f := fun s => s.executeFrame n) (.frame n) h
  case resetDevice => exact .of_unlessHeld (.reset s.pins) h
  case resetLineAssertion a => cases h; exact .reset _
  case powerOn a => cases h; exact .reset _
  case resetLineRelease => cases h; exact .release _
  all_goals exact .of_unlessHeld (f := fun s => s.runAlone _) (.command _) h

/-- A step is an event of the block, on the state with the queue's rest. -/
theorem step_event {s t : State} (h : step s = .next t) : ∃ l, (s.withPending l).Event t := by
  unfold step at h
  split at h
  · exact ⟨_, exec_event h⟩
  · cases h; exact ⟨s.pending, .idle⟩

/-- A property that reads nothing of the commands that wait and that every event keeps is kept by every step. -/
theorem step_keeps {P : State → Prop} (hp : ∀ (s : State) (l : List Instr), P s → P (s.withPending l))
    (he : ∀ s t : State, s.Event t → P s → P t) {s t : State} (h : step s = .next t) (hs : P s) : P t := by
  obtain ⟨l, event⟩ := step_event h
  exact he _ _ event (hp s l hs)

end Sys2Proof.Machine
end


section
/-! PROOFS. What a command of a management frame can do to the part (R171), said once: one case for each kind of effect. -/

namespace Sys2Proof.Machine

/-! ### The effects of the commands -/

/-- What a command of a management frame makes of the state that it finds, its reply and counts left out. -/
inductive State.Effect (s : State) : State → Prop
  | none : s.Effect s
  | cleared : s.Effect s.clearStatus
  | ladder (c : CarrierId) (l : Ladder) (off : (s.car c).control.state = .off) (locked : l.locked = (s.car c).ladder.locked) :
      s.Effect (s.setCar c { s.car c with ladder := l })
  | curve (c : CarrierId) (start : Nat) (l : List Nat) (fits : ∀ p ∈ l, p ≤ 400) :
      s.Effect (s.updCar c (fun k => k.onEst (fun e => { e with curve := storeFrom e.curve start l })))
  | classifier (x : Classifier) : s.Effect { s with classifier := x }
  | shedTable (t : Quad Nat) (fits : ∀ k : ClassId, t.get k ≤ max (s.admission.shedTable.get k) (if k = 0 then 255 else 4092)) :
      s.Effect (State.shedEvaluate { s with admission := { s.admission with shedTable := t } })
  | limits (t : Quad Nat) (fits : ∀ k : ClassId, t.get k ≤ max (s.admission.limits.get k) 16384) :
      s.Effect { s with admission := { s.admission with limits := t } }
  | param (c : CarrierId) (p : Param) (v : Int) (r : Result) (k : Carrier) (plain : plainParam p = true)
      (stored : storeCarrierParam p (s.car c) v = some (r, k)) : s.Effect (s.setCar c k)
  | txCeiling (c : CarrierId) (p : Nat) (fits : p ≤ 11) :
      s.Effect ((s.completeFillOf c).setCar c (changeTxCeiling ((s.completeFillOf c).car c) p))
  | gapTime (n : Nat) (fits : 1 ≤ n ∧ n ≤ 255) : s.Effect { s with reseq := { s.reseq with tg := n } }
  | lateRun (n : Nat) (fits : 1 ≤ n ∧ n ≤ 1024) : s.Effect { s with reseq := { s.reseq with k := n } }
  | typeCode (n : BitVec 16) (fits : 0x0600 ≤ n.toNat ∧ n.toNat ≠ 0x8100) :
      s.Effect { s with agent := { s.agent with typeCode := n } }
  | alert (a : Alert) : s.Effect { s with alert := a }
  | enable (c : CarrierId) (off : (s.car c).control.state = .off) (valid : (s.car c).ladder.validate = Option.none) :
      s.Effect ((s.setCar c (s.car c).enabled).signalContribution c)
  | disable (c : CarrierId) (on : (s.car c).control.state ≠ .off) :
      s.Effect ((((s.completeFillOf c).setCar c ((s.completeFillOf c).car c).disabled).cutCapture c).signalContribution c)
  | restart (c : CarrierId) (on : (s.car c).control.state ≠ .off) :
      s.Effect (((s.completeFillOf c).setCar c ((s.completeFillOf c).car c).startClearing).signalContribution c)
  | testEnter (c : CarrierId) (p : Nat) (on : (s.car c).control.state ≠ .off) (fits : p ≤ ((s.completeFillOf c).car c).txCeil) :
      s.Effect (((s.completeFillOf c).setCar c (((s.completeFillOf c).car c).enterTest p)).signalContribution c)
  | testLeave (c : CarrierId) (test : (s.car c).control.state = .test) :
      s.Effect ((s.setCar c (s.car c).leaveTest).signalContribution c)
  | clearHold (c : CarrierId) (hold : (s.car c).control.state = .hold) :
      s.Effect ((s.completeFillOf c).setCar c ((s.completeFillOf c).car c).enterRun)
  | sweep (c : CarrierId) (p : Nat) (dwell : Option (BitVec 16)) (test : (s.car c).control.state = .test)
      (fits : p ≤ (s.car c).txCeil) :
      s.Effect (s.setCar c ((s.car c).startSweep p (sweepDwellOf (s.car c) dwell)))
  | emptied (y : History) (empty : y.ring = []) : s.Effect { s with history := y }
  | trafficReset : s.Effect s.completeFill.trafficReset
  | deviceReset : s.Effect s.deviceReset

theorem State.Effect.of_withCarrier {s : State} {b : Byte} {f : CarrierId → Ran} (h : ∀ c, s.Effect (f c).2) :
    s.Effect (withCarrier b s f).2 := by
  unfold withCarrier
  split
  · exact h _
  · exact .none

section
variable (s : State) (b start : Byte)

theorem runStatus_effect (clear : Byte) : s.Effect (runStatus clear s).2 := by
  unfold runStatus
  split
  · exact .none
  · exact .cleared
  · exact .none

theorem runWriteLadder_effect (l : List LadderEntryRaw) : s.Effect (runWriteLadder b start l s).2 := by
  refine .of_withCarrier fun c => ?_
  dsimp only
  by_cases on : (s.car c).control.state = .off
  · rw [if_neg (fun h => h on)]
    split_ifs
    case neg =>
      refine .ladder c _ on ?_
      unfold Ladder.write
      split <;> rfl
    all_goals exact .none
  · rw [if_pos on]; exact .none

theorem runWriteLadderLength_effect (l : List Byte) : s.Effect (runWriteLadderLength b start l s).2 := by
  refine .of_withCarrier fun c => ?_
  dsimp only
  by_cases on : (s.car c).control.state = .off
  · rw [if_neg (fun h => h on)]
    split
    · exact .none
    · split
      · exact .none
      · exact .ladder c _ on rfl
      · exact .none
  · rw [if_pos on]; exact .none

theorem runWriteCurve_effect (l : List (BitVec 16)) : s.Effect (runWriteCurve b start l s).2 := by
  refine .of_withCarrier fun c => ?_
  split
  · exact .none
  · refine .curve c _ _ fun p hp => ?_
    obtain ⟨v, -, rfl⟩ := List.mem_map.mp hp
    exact Nat.min_le_right _ _

theorem runWriteFlow_effect (l : List FlowEntryRaw) : s.Effect (runWriteFlow start l s).2 := by
  unfold runWriteFlow
  split_ifs
  case neg => exact .classifier _
  all_goals exact .none

/-- A position of a table of four holds what it held, or one of the values stored. -/
theorem storeQuad_le {q : Quad Nat} {start : Nat} {l : List Nat} {i : Fin 4} {n : Nat} (h : ∀ v, givenAt start l i.val = some v → v ≤ n) :
    (storeQuad q start l).get i ≤ max (q.get i) n := by
  rw [storeQuad_get]
  cases hg : givenAt start l i.val with
  | none => exact Nat.le_max_left _ _
  | some v => exact (h v hg).trans (Nat.le_max_right _ _)

/-- The largest value of a class's position: Ah at position 0, an Amin elsewhere. -/
theorem shedLimit_val (k : ClassId) : shedLimit k.val = if k = 0 then 255 else 4092 := by
  match k with
  | 0 | 1 | 2 | 3 => rfl

theorem runWriteShed_effect (l : List (BitVec 16)) : s.Effect (runWriteShed start l s).2 := by
  unfold runWriteShed
  split
  · exact .none
  · simp only [answer_state]
    split
    · exact .none
    · refine .shedTable _ fun k => storeQuad_le fun v hv => ?_
      rw [clampShed_given] at hv
      obtain ⟨w, -, rfl⟩ := Option.map_eq_some_iff.mp hv
      exact (Nat.min_le_right _ _).trans (le_of_eq (shedLimit_val k))

theorem runWriteClassLimit_effect (l : List (BitVec 16)) : s.Effect (runWriteClassLimit start l s).2 := by
  unfold runWriteClassLimit
  split
  · exact .none
  · refine .limits _ fun k => storeQuad_le fun v hv => ?_
    rw [givenAt_map] at hv
    obtain ⟨w, -, rfl⟩ := Option.map_eq_some_iff.mp hv
    exact Nat.min_le_right _ _

theorem runTableRead_state (t n : Byte) : (runTableRead t b start n s).2 = s := by
  have read : ∀ l, (readPositions l start n s).2 = s := fun l => by unfold readPositions; split <;> rfl
  unfold runTableRead
  split
  · rfl
  · split
    · exact read _
    · unfold withCarrier
      split
      · exact read _
      · rfl

/-! ### SET -/

/-- A SET of a carrier parameter stores it or is refused. -/
theorem setCarrierParam_effect {p : Param} (plain : plainParam p = true) (v : BitVec 32) : s.Effect (setCarrierParam p b v s).2 := by
  refine .of_withCarrier fun c => ?_
  split
  · rename_i stored
    exact .param c p v.toInt _ _ plain stored
  · exact .none

theorem setTxCeiling_effect (v : BitVec 32) : s.Effect (setTxCeiling b v s).2 := by
  unfold setTxCeiling withCarrier
  split
  · rename_i c hc
    simp only [setCarrierParam, withCarrier_some hc, storeTxCeiling_eq, answer_state]
    refine .txCeiling c _ ?_
    have := clampInt_upper 0 11 v.toInt (by decide)
    omega
  · exact .none

/-- The type code that a SET stores is in its range and is not that of a tag. -/
theorem storeTypeCode_range {v : Int} {r : Result} {t : State} (h : storeTypeCode s v = some (r, t)) :
    ∃ n : BitVec 16, t = { s with agent := { s.agent with typeCode := n } } ∧ 0x0600 ≤ n.toNat ∧ n.toNat ≠ 0x8100 := by
  unfold storeTypeCode at h
  split at h
  · cases h
  · rename_i untagged
    have tagged : (Config.vlanTagId : Int) = 0x8100 := rfl
    rw [storeClamped_eq (by decide)] at h
    simp only [Option.some.injEq, Prod.mk.injEq] at h
    refine ⟨_, h.2.symm, ?_⟩
    have value : (BitVec.ofInt 16 (clampInt 0x0600 0xFFFF v)).toNat = (clampInt 0x0600 0xFFFF v).toNat := by
      have low := clampInt_lower 0x0600 0xFFFF v
      have high := clampInt_upper 0x0600 0xFFFF v (by decide)
      rw [BitVec.toNat_ofInt]
      omega
    rw [value]
    simp only [clampInt]
    omega

theorem runSet_effect (p : Param) (v : BitVec 32) : s.Effect (runSet p b v s).2 := by
  have clamped : ∀ lo hi : Int, 0 ≤ lo → lo ≤ hi → lo.toNat ≤ (clampInt lo hi v.toInt).toNat ∧ (clampInt lo hi v.toInt).toNat ≤ hi.toNat :=
    fun lo hi _ h => ⟨Int.toNat_le_toNat (clampInt_lower lo hi _), Int.toNat_le_toNat (clampInt_upper lo hi _ h)⟩
  cases p
  case defaultClass => exact .classifier _
  case gapTime => exact .gapTime _ (clamped 1 255 (by decide) (by decide))
  case lateRunLimit => exact .lateRun _ (clamped 1 1024 (by decide) (by decide))
  case managementTypeCode =>
    show s.Effect (setDeviceParam (storeTypeCode s v.toInt) readTypeCode s).2
    unfold setDeviceParam
    split
    · rename_i stored
      obtain ⟨n, rfl, fits⟩ := storeTypeCode_range s stored
      exact .typeCode n fits
    · exact .none
  case alertMask => exact .alert _
  case txCeiling => exact setTxCeiling_effect s b v
  all_goals exact setCarrierParam_effect s b rfl v

/-! ### CARRIER, SWEEP and CAPTURE -/

theorem runEnable_effect : s.Effect (runEnable b s).2 := by
  refine .of_withCarrier fun c => ?_
  dsimp only
  by_cases off : (s.car c).control.state = .off
  · rw [if_neg (fun h => h off)]
    split
    · exact .none
    · exact .enable c off ‹_›
  · rw [if_pos off]; exact .none

theorem runDisable_effect : s.Effect (runDisable b s).2 := by
  refine .of_withCarrier fun c => ?_
  split
  · exact .none
  · exact .disable c ‹_›

theorem runRestart_effect : s.Effect (runRestart b s).2 := by
  refine .of_withCarrier fun c => ?_
  split
  · exact .none
  · exact .restart c ‹_›

theorem runTestEnter_effect (p : Byte) : s.Effect (runTestEnter b p s).2 := by
  refine .of_withCarrier fun c => ?_
  split
  · exact .none
  · rename_i on
    exact .testEnter c _ (fun h => on (.inl h)) (Nat.min_le_right _ _)

theorem runTestLeave_effect : s.Effect (runTestLeave b s).2 := by
  refine .of_withCarrier fun c => ?_
  dsimp only
  split
  · exact .testLeave c ‹_›
  · exact .none

theorem runClearHold_effect : s.Effect (runClearHold b s).2 := by
  refine .of_withCarrier fun c => ?_
  split
  · exact .clearHold c ‹_›
  · exact .none

theorem runSweep_effect (dwell : Option (BitVec 16)) : s.Effect (runSweep b start dwell s).2 := by
  refine .of_withCarrier fun c => ?_
  dsimp only
  split
  · exact .sweep c _ dwell ‹_› (Nat.min_le_right _ _)
  · exact .none

theorem runCaptureArm_effect (t : Byte) (post : BitVec 16) : s.Effect (runCaptureArm b t post s).2 := by
  refine .of_withCarrier fun c => ?_
  split
  · exact .none
  · split
    · exact .none
    · exact .emptied _ rfl

theorem runCaptureRead_state (offset : BitVec 16) (n : Byte) : (runCaptureRead offset n s).2 = s := by
  unfold runCaptureRead
  dsimp only
  split
  · rfl
  · split <;> rfl

end

/-- Every command has one of the effects. -/
theorem runCommand_effect (x : Command) (s : State) : s.Effect (runCommand x s).2 := by
  cases x with
  | status clear => exact runStatus_effect s clear
  | writeLadder b start l => exact runWriteLadder_effect s b start l
  | writeLadderLength b start l => exact runWriteLadderLength_effect s b start l
  | writeCurve b start l => exact runWriteCurve_effect s b start l
  | writeFlow start l => exact runWriteFlow_effect s start l
  | writeShed start l => exact runWriteShed_effect s start l
  | writeClassLimit start l => exact runWriteClassLimit_effect s start l
  | tableRead t b start n => rw [runCommand, runTableRead_state]; exact .none
  | set p b v => exact runSet_effect s b p v
  | get p b => rw [runCommand, runGet_state]; exact .none
  | enable b => exact runEnable_effect s b
  | disable b => exact runDisable_effect s b
  | restart b => exact runRestart_effect s b
  | testEnter b p => exact runTestEnter_effect s b p
  | testLeave b => exact runTestLeave_effect s b
  | clearHold b => exact runClearHold_effect s b
  | sweep b start dwell => exact runSweep_effect s b start dwell
  | captureArm b t post => exact runCaptureArm_effect s b t post
  | captureCancel => exact .emptied _ rfl
  | captureRead offset n => rw [runCommand, runCaptureRead_state]; exact .none
  | latchClear mask => exact .alert _
  | resetTraffic => exact .trafficReset
  | resetDevice => exact .deviceReset

/-- A command through its checks has one of the effects: a refused one has none. -/
theorem checkAndRun_effect (x : Except Result Command) (used following : Nat) (s : State) : s.Effect (checkAndRun x used following s).2 := by
  unfold checkAndRun
  split
  · exact .none
  · split
    · exact runCommand_effect _ s
    · exact .none

end Sys2Proof.Machine
end


section
/-! PROOFS. Inductions packaged once: over the operations that a Resequencer's event is made of, over the fills before an outbound start,
over the items that wait at a lane, and over the commands of a management frame. -/

namespace Sys2Proof.Machine

/-! ### The Resequencer's events -/

/-- A change of the Resequencer that leaves its settings. -/
abbrev KeepsTimes (f : Reseq → Reseq) : Prop := ∀ r, (f r).tg = r.tg ∧ (f r).k = r.k

/-- A late segment counted (R137). -/
def Reseq.countLate (r : Reseq) : Reseq := { r with late := bump r.late, lateRun := r.lateRun + 1 }

/-- A late segment that completes a late run: counted, and a resync (R138). -/
def Reseq.lateResync (r : Reseq) : Reseq := { r.countLate.resync with lateResyncs := bump r.lateResyncs }

/-- A late segment is counted, and where it completes a late run it is then taken as in UNSYNC. -/
theorem State.segmentLate_eq (s : State) (g : Segment) :
    s.segmentLate g =
      if s.reseq.k ≤ s.reseq.lateRun + 1 then (s.onReseq Reseq.lateResync).segmentUnsynced g else s.onReseq Reseq.countLate := rfl

/-- A property that the operations of the Resequencer's events keep: a change of the Resequencer but for its settings, a latch, a frame to
egress and a frame to the Agent. -/
structure State.ReseqClosed (P : State → Prop) : Prop where
  onReseq : ∀ s f, KeepsTimes f → P s → P (s.onReseq f)
  signal : ∀ s l, P s → P (s.signal l)
  egress : ∀ s f, P s → P (s.egress f)
  enqueue : ∀ s sd f, P s → P (s.enqueue sd f)

theorem Reseq.reexamine_times (before : SeqNo) : KeepsTimes (fun r => r.reexamine before) := by
  intro r
  simp only [Reseq.reexamine]
  split
  · split
    · exact ⟨rfl, rfl⟩
    · split <;> exact ⟨rfl, rfl⟩
  · exact ⟨rfl, rfl⟩

section
variable {P : State → Prop} (closed : State.ReseqClosed P)
include closed

theorem State.ReseqClosed.frameComplete {s : State} (f : Frame) (h : P s) : P (s.frameComplete f) := by
  unfold State.frameComplete
  split
  · exact closed.enqueue _ _ _ (closed.onReseq _ _ (fun _ => ⟨rfl, rfl⟩) h)
  · exact closed.egress _ _ (closed.onReseq _ _ (fun _ => ⟨rfl, rfl⟩) h)

theorem State.ReseqClosed.beginFrame {s : State} (g : Segment) (h : P s) : P (s.beginFrame g) := by
  simp only [State.beginFrame]
  split
  · exact closed.frameComplete _ (closed.onReseq _ _ (fun _ => ⟨rfl, rfl⟩) h)
  · exact closed.onReseq _ _ (fun _ => ⟨rfl, rfl⟩) h

theorem State.ReseqClosed.reassemble {s : State} (g : Segment) (h : P s) : P (s.reassemble g) := by
  simp only [State.reassemble]
  split
  · split
    · exact closed.beginFrame g (closed.onReseq _ _ (fun _ => ⟨rfl, rfl⟩) h)
    · split
      · split
        · exact closed.frameComplete _ (closed.onReseq _ _ (fun _ => ⟨rfl, rfl⟩) h)
        · exact closed.onReseq _ _ (fun _ => ⟨rfl, rfl⟩) h
      · exact closed.onReseq _ _ (fun _ => ⟨rfl, rfl⟩) h
  · split
    · exact closed.beginFrame g h
    · exact closed.onReseq _ _ (fun _ => ⟨rfl, rfl⟩) h

theorem State.ReseqClosed.handOver {s : State} (x : Slot) (h : P s) : P (s.handOver x) := by
  cases x with
  | segment g => exact closed.reassemble g h
  | lost =>
    have counted := closed.onReseq s (fun r => { r with lostDelivered := bump r.lostDelivered }) (fun _ => ⟨rfl, rfl⟩) h
    simp only [State.handOver, State.losePosition]
    split
    · exact closed.signal _ _ (closed.onReseq _ _ (fun _ => ⟨rfl, rfl⟩) counted)
    · exact counted

theorem State.ReseqClosed.deliverUpTo (n : Nat) {s : State} (h : P s) : P (s.deliverUpTo n) := by
  induction n generalizing s with
  | zero => exact h
  | succ n ih =>
    simp only [State.deliverUpTo]
    split
    · exact ih (closed.handOver _ (closed.onReseq _ _ (fun _ => ⟨rfl, rfl⟩) h))
    · exact h

theorem State.ReseqClosed.deliverFrom {s : State} (before : SeqNo) (h : P s) : P (s.deliverFrom before) :=
  closed.onReseq _ _ (Reseq.reexamine_times before) (closed.deliverUpTo _ h)

theorem State.ReseqClosed.segmentUnsynced {s : State} (g : Segment) (h : P s) : P (s.segmentUnsynced g) := by
  simp only [State.segmentUnsynced]
  split
  · exact closed.deliverFrom _ (closed.onReseq _ _ (fun _ => ⟨rfl, rfl⟩) h)
  · exact closed.onReseq _ _ (fun _ => ⟨rfl, rfl⟩) h

theorem State.ReseqClosed.segmentLate {s : State} (g : Segment) (h : P s) : P (s.segmentLate g) := by
  rw [State.segmentLate_eq]
  split
  · exact closed.segmentUnsynced g (closed.onReseq _ _ (fun _ => ⟨rfl, rfl⟩) h)
  · exact closed.onReseq _ _ (fun _ => ⟨rfl, rfl⟩) h

theorem State.ReseqClosed.takeSegment {s : State} (g : Segment) (h : P s) : P (s.takeSegment g) := by
  simp only [State.takeSegment, State.segmentSynced]
  split
  · split
    · exact closed.segmentLate g h
    · split
      · split
        · exact closed.onReseq _ _ (fun _ => ⟨rfl, rfl⟩) h
        · exact closed.deliverFrom _ (closed.onReseq _ _ (fun _ => ⟨rfl, rfl⟩) h)
      · exact closed.segmentUnsynced g (closed.onReseq _ _ (fun _ => ⟨rfl, rfl⟩) h)
  · exact closed.segmentUnsynced g h

theorem State.ReseqClosed.takeLoss {s : State} (q : SeqNo) (h : P s) : P (s.takeLoss q) := by
  simp only [State.takeLoss]
  split
  · exact closed.deliverFrom _ (closed.onReseq _ _ (fun _ => ⟨rfl, rfl⟩) h)
  · exact closed.onReseq _ _ (fun _ => ⟨rfl, rfl⟩) h

/-- Taking an item keeps what the operations of the Resequencer's events keep. -/
theorem State.ReseqClosed.takeItem {s : State} (i : Item) (h : P s) : P (s.takeItem i) := by
  cases i with
  | segment g => exact closed.takeSegment g h
  | loss q => exact closed.takeLoss q h

/-- So does a tick of the timebase. -/
theorem State.ReseqClosed.tick {s : State} (h : P s) : P s.tick := by
  unfold State.tick
  split
  · split
    · exact closed.deliverFrom _ (closed.onReseq _ _ (fun _ => ⟨rfl, rfl⟩) h)
    · exact closed.onReseq _ _ (fun _ => ⟨rfl, rfl⟩) h
  · exact h

end

/-- A frame that joins the input queue or is dropped changes the Agent's queue and counters, and at most raises MGMT DROP (R169). -/
theorem State.enqueue_cases (s : State) (sd : Side) (f : Frame) :
    ∃ a : Agent, a.typeCode = s.agent.typeCode ∧ a.execution = s.agent.execution ∧
      a.queue.length ≤ max s.agent.queue.length Config.inputQueueSize ∧
      (s.enqueue sd f = { s with agent := a }.signal .mgmtDrop ∨ s.enqueue sd f = { s with agent := a }) := by
  simp only [State.enqueue]
  split
  · exact ⟨{ s.agent with queueDrops := bump s.agent.queueDrops }, rfl, rfl, Nat.le_max_left _ _, .inl rfl⟩
  · rename_i room
    have joined : (s.agent.queue ++ [QueuedFrame.mk sd f]).length ≤ max s.agent.queue.length Config.inputQueueSize := by
      rw [List.length_append, List.length_singleton]
      omega
    refine ⟨_, ?_, ?_, ?_, .inr rfl⟩ <;> cases sd
    all_goals first | rfl | exact joined

/-- Class Admission counts a frame, and joins it to its queue where there is room for it (R114). -/
theorem State.admitFrame_cases (s : State) (k : ClassId) (f : Frame) :
    ∃ a : Admission, a.shed = s.admission.shed ∧ a.limits = s.admission.limits ∧ a.shedTable = s.admission.shedTable ∧
      (s.admitFrame k f = { s with admission := a } ∨
        slotCount f ≤ s.queues.free ∧ s.admitFrame k f = { s with admission := a, queues := s.queues.join k f }) := by
  simp only [State.admitFrame]
  split_ifs with shed limit buffer
  · exact ⟨s.admission.count k _, rfl, rfl, rfl, .inl rfl⟩
  · exact ⟨s.admission.count k _, rfl, rfl, rfl, .inl rfl⟩
  · exact ⟨s.admission.count k _, rfl, rfl, rfl, .inl rfl⟩
  · exact ⟨s.admission.count k _, rfl, rfl, rfl, .inr ⟨Nat.le_of_not_lt buffer, rfl⟩⟩

/-! ### Items, fills and commands, one after the other -/

section
variable {P : State → Prop}

/-- What the taking of one item keeps, the taking of many keeps. -/
theorem State.takeItems_keeps {c : CarrierId} (item : ∀ s i, P s → P ((s.dropItem c).takeItem i)) (n : Nat) {s : State} (h : P s) :
    P (s.takeItems c n) := by
  induction n generalizing s with
  | zero => exact h
  | succ n ih =>
    simp only [State.takeItems]
    split
    · exact ih (item s _ h)
    · exact h

/-- What a whole fill keeps, the fills before an outbound start keep. -/
theorem State.serveBefore_keeps (next : ∀ s, P s → P s.fillNext) (c : CarrierId) (n : Nat) {s : State} (h : P s) :
    P (s.serveBefore c n) := by
  induction n generalizing s with
  | zero => exact h
  | succ n ih =>
    simp only [State.serveBefore]
    split
    · exact ih (next s h)
    · exact h

theorem State.completeFillOf_keeps (complete : ∀ s, P s → P s.completeFill) (c : CarrierId) {s : State} (h : P s) :
    P (s.completeFillOf c) := by
  rcases s.completeFillOf_cases c with e | e
  · rw [e]; exact h
  · rw [e]; exact complete s h

/-- What a grant and a completed fill keep, whole fills and the fills before an outbound start keep. -/
theorem State.fillNext_keeps (complete : ∀ s, P s → P s.completeFill) (grant : ∀ s, P s → P s.grantFill) {s : State} (h : P s) :
    P s.fillNext :=
  complete _ (grant _ (complete _ h))

theorem State.beforeStart_keeps (complete : ∀ s, P s → P s.completeFill) (grant : ∀ s, P s → P s.grantFill) (c : CarrierId)
    {s : State} (h : P s) : P (s.beforeStart c) :=
  State.serveBefore_keeps (fun _ hs => State.fillNext_keeps complete grant hs) c 4 (State.completeFillOf_keeps complete c h)

/-- A state whose execution has one command fewer left, and that command's entry more. -/
def State.ranOne (s : State) (x : Execution) (raw : RawCommand) (following : Nat) : State :=
  let r := checkAndRun (decodeCommand raw.code raw.args) (bodyLength x.entries) following s
  (r.2.returned r.1).noteEntry x { code := raw.code, tag := raw.tag, result := r.1.result, data := r.1.data }

/-- One command of the frame being executed, when it is no device reset. -/
theorem State.runCommands_succ {s : State} {x : Execution} {raw : RawCommand} {rest : List RawCommand}
    (hx : s.agent.execution = some x) (hl : x.left = raw :: rest) (hd : decodeCommand raw.code raw.args ≠ .ok .resetDevice) (n : Nat) :
    s.runCommands (n + 1) = (s.ranOne x raw rest.length).runCommands n := by
  simp only [State.runCommands, hx, hl]
  rfl

/-- What the end of a frame, a device reset and one command keep, the commands of a frame keep. -/
theorem State.runCommands_keeps (finish : ∀ s, P s → P s.finishFrame) (reset : ∀ s, P s → P s.deviceReset)
    (one : ∀ s x raw rest, s.agent.execution = some x → x.left = raw :: rest → P s → P (s.ranOne x raw rest.length)) (n : Nat) {s : State}
    (h : P s) : P (s.runCommands n) := by
  induction n generalizing s with
  | zero => exact finish s h
  | succ n ih =>
    rcases hx : s.agent.execution with _ | x
    · simp only [State.runCommands, hx]; exact h
    · rcases hl : x.left with _ | ⟨raw, rest⟩
      · simp only [State.runCommands, hx, hl]; exact finish s h
      · by_cases hd : decodeCommand raw.code raw.args = .ok .resetDevice
        · simp only [State.runCommands, hx, hl, hd]; exact reset s h
        · rw [State.runCommands_succ hx hl hd]
          exact ih (one s x raw rest hx hl h)

theorem State.executeFrame_keeps (begin : ∀ s, P s → P s.beginFrameExecution) (finish : ∀ s, P s → P s.finishFrame)
    (reset : ∀ s, P s → P s.deviceReset)
    (one : ∀ s x raw rest, s.agent.execution = some x → x.left = raw :: rest → P s → P (s.ranOne x raw rest.length)) (n : Nat) {s : State}
    (h : P s) : P (s.executeFrame n) := by
  refine State.runCommands_keeps finish reset one n ?_
  split
  · exact h
  · exact begin s h

end

end Sys2Proof.Machine
end


section
/-! PROOFS. The settings and the levels (R177, section 3.1): what keeps every setting as it stands, what an arrival makes of an estimator,
what each command stores, and O58. -/

namespace Sys2Proof.Machine

/-! ### The settings of one carrier -/

/-- The settings of a Requester (R66). -/
def Requester.settings (q : Requester) : Nat × Nat × Int × Nat := (q.nu, q.th, q.gu, q.tr)

/-- The settings of a Carrier State Control that have a range (R19, R34). -/
def Control.settings (x : Control) : Nat × Nat × Nat × Nat × Nat × Nat :=
  (x.na, x.tf, x.fixedProfile, x.rxFloor, x.rxCeiling, x.txCeiling)

/-- The settings of a carrier but for those of its estimator. -/
def Carrier.settings (k : Carrier) := (k.control.settings, k.req.settings, k.sched.ds, k.test.dw)

theorem Carrier.settings_eq_iff (k k' : Carrier) :
    k'.settings = k.settings ↔
      k'.control.settings = k.control.settings ∧ k'.req.settings = k.req.settings ∧ k'.sched.ds = k.sched.ds ∧
        k'.test.dw = k.test.dw := by
  simp only [Carrier.settings, Prod.mk.injEq]

/-- An estimator's own settings: its curve and those of R40. -/
def Estimator.settings (e : Estimator) := (e.curve, e.pb, e.ad, e.au, e.bs, e.lp)

/-- A carrier whose settings stand has them in range as it had. -/
theorem Carrier.settingsOk_of_same {k k' : Carrier} (h : k'.settings = k.settings) (he : k'.est.settings = k.est.settings)
    (hk : k.settingsOk) : k'.settingsOk := by
  simp only [Carrier.settings, Control.settings, Requester.settings, Estimator.settings, Prod.mk.injEq] at h he
  simpa only [Carrier.settingsOk, h, he] using hk

/-- What a change of one carrier keeps: its settings in their ranges, and its levels in theirs. -/
def Carrier.Keeps (k k' : Carrier) : Prop := (k.settingsOk → k'.settingsOk) ∧ (k.est.inRange → k'.est.inRange)

theorem Carrier.keeps_of_same {k k' : Carrier} (h : k'.settings = k.settings) (he : k'.est = k.est) : k.Keeps k' :=
  ⟨Carrier.settingsOk_of_same h (by rw [he]), fun hk => by rw [he]; exact hk⟩

/-! ### What a step can keep of the whole part -/

/-- What a change of the part keeps: every setting in its range, and every level in its own. -/
def State.Keeps (s t : State) : Prop := (s.settingsOk → t.settingsOk) ∧ (s.levelsOk → t.levelsOk)

theorem State.Keeps.trans {s t u : State} (h : s.Keeps t) (h' : t.Keeps u) : s.Keeps u :=
  ⟨fun x => h'.1 (h.1 x), fun x => h'.2 (h.2 x)⟩

/-- The settings of the device that have a range (R111, R113, R134, R168). -/
def State.deviceSettings (s : State) := (s.reseq.tg, s.reseq.k, s.agent.typeCode, s.admission.limits, s.admission.shedTable)

/-- A change that leaves the device's settings and keeps each carrier's. -/
theorem State.keeps_of_same {s t : State} (hd : t.deviceSettings = s.deviceSettings) (hc : ∀ c, (s.car c).Keeps (t.car c)) :
    s.Keeps t := by
  simp only [State.deviceSettings, Prod.mk.injEq] at hd
  obtain ⟨tg, k, code, limits, table⟩ := hd
  refine ⟨fun ⟨h1, h2, h3, h4, h5, h6⟩ => ?_, fun h c => (hc c).2 (h c)⟩
  rw [← tg] at h2
  rw [← k] at h3
  rw [← code] at h4
  rw [← limits] at h5
  rw [← table] at h6
  exact ⟨fun c => (hc c).1 (h1 c), h2, h3, h4, h5, h6⟩

theorem State.keeps_refl (s : State) : s.Keeps s := ⟨id, id⟩

/-- A change of one carrier that keeps its settings and levels. -/
theorem State.keeps_setCar {s : State} {c : CarrierId} {k : Carrier} (h : (s.car c).Keeps k) : s.Keeps (s.setCar c k) := by
  refine State.keeps_of_same rfl fun d => ?_
  rw [State.car_setCar]
  split
  · rename_i e; rw [e]; exact h
  · exact ⟨id, id⟩

/-- A change that leaves the carriers and the device's settings. -/
theorem State.keeps_of_carriers {s t : State} (hc : t.carriers = s.carriers) (hd : t.deviceSettings = s.deviceSettings) : s.Keeps t :=
  State.keeps_of_same hd fun c => by rw [State.car_congr hc c]; exact ⟨id, id⟩

theorem State.keeps_signal (s : State) (l : Latch) : s.Keeps (s.signal l) := State.keeps_of_carriers rfl rfl

theorem State.keeps_signalIf (s : State) (b : Bool) (l : Latch) : s.Keeps (s.signalIf b l) :=
  State.keeps_of_carriers (by simp) (by simp [State.deviceSettings])

theorem State.keeps_signalContribution (s : State) (c : CarrierId) : s.Keeps (s.signalContribution c) :=
  State.keeps_of_carriers (by simp) (by simp [State.deviceSettings])

theorem State.keeps_enqueue (s : State) (sd : Side) (f : Frame) : s.Keeps (s.enqueue sd f) := by
  obtain ⟨a, code, -, -, e | e⟩ := s.enqueue_cases sd f
  · rw [e]; exact State.keeps_of_carriers rfl (by simp [State.deviceSettings, code])
  · rw [e]; exact State.keeps_of_carriers rfl (by simp [State.deviceSettings, code])

theorem State.keeps_admitFrame (s : State) (k : ClassId) (f : Frame) : s.Keeps (s.admitFrame k f) := by
  obtain ⟨a, -, limits, table, e | ⟨-, e⟩⟩ := s.admitFrame_cases k f
  · rw [e]; exact State.keeps_of_carriers rfl (by simp [State.deviceSettings, limits, table])
  · rw [e]; exact State.keeps_of_carriers rfl (by simp [State.deviceSettings, limits, table])

/-- The property that a state keeps what an earlier state had. -/
theorem State.keeps_reseqClosed (s : State) : State.ReseqClosed s.Keeps where
  onReseq t f hf h := h.trans (State.keeps_of_carriers rfl (by
    obtain ⟨tg, k⟩ := hf t.reseq
    simp only [State.deviceSettings, State.onReseq, tg, k]))
  signal t l h := h.trans (t.keeps_signal l)
  egress t f h := h.trans (State.keeps_of_carriers rfl rfl)
  enqueue t sd f h := h.trans (t.keeps_enqueue sd f)

theorem State.keeps_dropItem (s : State) (c : CarrierId) : s.Keeps (s.dropItem c) :=
  State.keeps_setCar (Carrier.keeps_of_same rfl rfl)

theorem State.keeps_takeItem (s : State) (c : CarrierId) (i : Item) : s.Keeps ((s.dropItem c).takeItem i) :=
  s.keeps_reseqClosed.takeItem i (s.keeps_dropItem c)

theorem State.keeps_takeItems (s : State) (c : CarrierId) (n : Nat) : s.Keeps (s.takeItems c n) :=
  State.takeItems_keeps (P := s.Keeps) (fun t i h => h.trans (t.keeps_takeItem c i)) n s.keeps_refl

/-! ### Fills -/

theorem Scheduler.fillProfile_ds (d : Scheduler) (n : FrameNo) : (d.fillProfile n).2.ds = d.ds := by rw [Scheduler.fillProfile_eq]

theorem Carrier.sweepFill_settings (k : Carrier) : k.sweepFill.settings = k.settings := by
  unfold Carrier.sweepFill
  split_ifs <;> rfl

theorem Carrier.chooseProfile_settings (k : Carrier) (n : FrameNo) : (k.chooseProfile n).settings = k.settings := by
  rw [Carrier.chooseProfile, Carrier.sweepFill_settings, Carrier.settings_eq_iff]
  exact ⟨rfl, rfl, k.sched.fillProfile_ds n, rfl⟩

theorem State.keeps_completeFill (s : State) : s.Keeps s.completeFill := by
  refine State.keeps_of_same (by simp [State.deviceSettings]) fun c => Carrier.keeps_of_same ?_ (by simp)
  rw [Carrier.settings_eq_iff]
  simp

theorem State.keeps_completeFillOf (s : State) (c : CarrierId) : s.Keeps (s.completeFillOf c) :=
  State.completeFillOf_keeps (P := s.Keeps) (fun t h => h.trans t.keeps_completeFill) c s.keeps_refl

theorem State.keeps_handRecord (s : State) (kind : FillKind) (c : CarrierId) (n : FrameNo) (p : Nat) (w : Filling) :
    s.Keeps (s.handRecord kind c n p w) :=
  State.keeps_setCar (Carrier.keeps_of_same rfl rfl)

theorem State.keeps_endFill (s : State) (w : OpenFill) : s.Keeps (s.endFill w) :=
  State.Keeps.trans (t := { s with filling := none }) (State.keeps_of_carriers rfl rfl) (State.keeps_handRecord _ _ _ _ _ _)

theorem State.keeps_beginFill (s : State) (c : CarrierId) (n : FrameNo) : s.Keeps (s.beginFill c n) := by
  have chosen : s.Keeps (s.setCar c ((s.car c).chooseProfile n).dropRequest) :=
    State.keeps_setCar (Carrier.keeps_of_same ((s.car c).chooseProfile_settings n) ((s.car c).chooseProfile_est n))
  exact (chosen.trans (State.keeps_signalIf _ _ _)).trans (State.keeps_signalContribution _ _)

theorem State.keeps_grantFill (s : State) : s.Keeps s.grantFill := by
  unfold State.grantFill
  split
  · rename_i c n _
    unfold State.openFill
    dsimp only
    split
    · exact State.keeps_setCar (Carrier.keeps_of_same rfl rfl)
    · have begun := s.keeps_beginFill c n
      split
      · exact begun.trans (State.keeps_of_carriers rfl rfl)
      · exact begun.trans (State.keeps_handRecord _ _ _ _ _ _)
      · exact begun.trans (State.keeps_handRecord _ _ _ _ _ _)
  · exact s.keeps_refl

theorem State.keeps_drawOn (s : State) (n : Nat) : s.Keeps (s.drawOn n) := by
  rcases hf : s.filling with _ | w
  · rw [State.drawOn_none hf]; exact s.keeps_refl
  · rw [State.drawOn_some hf]
    have drawn : ∀ (q : Queues) (m : Nat), s.Keeps (State.updCar { s with queues := q } w.carrier (fun k => k.place m)) := fun q m =>
      State.Keeps.trans (t := { s with queues := q }) (State.keeps_of_carriers rfl rfl)
        (State.keeps_setCar (Carrier.keeps_of_same rfl rfl))
    dsimp only
    split
    · exact (drawn _ _).trans (State.keeps_of_carriers rfl rfl)
    · exact (drawn _ _).trans (State.keeps_endFill _ _)

theorem State.keeps_goOn (s : State) : s.Keeps s.goOn := by
  unfold State.goOn
  split
  · exact s.keeps_refl
  · exact s.keeps_completeFill
  · rename_i rest _ _
    exact State.Keeps.trans (t := { s with drawPlan := rest }) (State.keeps_of_carriers rfl rfl) (State.keeps_drawOn _ _)

theorem State.keeps_fill (s : State) : s.Keeps s.fill := by
  unfold State.fill
  split
  · exact s.keeps_goOn
  · exact s.keeps_grantFill.trans (State.keeps_goOn _)

theorem State.keeps_fillNext (s : State) : s.Keeps s.fillNext :=
  (s.keeps_completeFill.trans (State.keeps_grantFill _)).trans (State.keeps_completeFill _)

theorem State.keeps_beforeStart (s : State) (c : CarrierId) : s.Keeps (s.beforeStart c) :=
  State.beforeStart_keeps (P := s.Keeps) (fun t h => h.trans t.keeps_completeFill) (fun t h => h.trans t.keeps_grantFill) c s.keeps_refl

end Sys2Proof.Machine
end


section
/-! PROOFS. Settings and levels, continued: what an inbound arrival makes of them, what each command stores, and O58. -/

namespace Sys2Proof.Machine

/-! ### An inbound arrival -/

theorem Carrier.hear_settings (k : Carrier) (good : Option RxHeader) : (k.hear good).settings = k.settings := by
  simp only [Carrier.hear, Carrier.hearAcquire, Carrier.hearFallback]
  repeat' (first | rfl | split)

theorem Requester.issue_settings (q : Requester) (r : Request) : (q.issue r).settings = q.settings := rfl

theorem Requester.takeAnswer_settings (q : Requester) (h : RxHeader) : (q.takeAnswer h).1.settings = q.settings := by
  unfold Requester.takeAnswer
  repeat' (first | rfl | split)

theorem endPending_settings (m : Marked) (h : RxHeader) : (endPending m h).1.1.settings = m.1.settings := by
  unfold endPending
  repeat' (first | rfl | split)

theorem headerAuthority_settings (m : Marked) (ended : Bool) (h : RxHeader) :
    (headerAuthority m ended h).1.settings = m.1.settings := by
  unfold headerAuthority
  repeat' (first | rfl | split)

theorem Requester.partB_settings (q : Requester) (good : Option RxHeader) : (q.partB good).1.settings = q.settings := by
  cases good with
  | none => rfl
  | some h => exact (headerAuthority_settings _ _ h).trans ((endPending_settings _ h).trans (q.takeAnswer_settings h))

theorem Requester.decideAdaptive_settings (q : Requester) (l : Ladder) (running : Bool) (v : View) :
    (q.decideAdaptive l running v).1.settings = q.settings := by
  simp only [Requester.decideAdaptive, Requester.upshift]
  repeat' (first | rfl | split)

theorem Requester.decideFixed_settings (q : Requester) (fixed : Nat) (running : Bool) (v : View) :
    (q.decideFixed fixed running v).1.settings = q.settings := by
  simp only [Requester.decideFixed]
  repeat' (first | rfl | split)

theorem Requester.partC_settings (q : Requester) (l : Ladder) (x : Control) (v : View) : (q.partC l x v).1.settings = q.settings := by
  unfold Requester.partC
  split
  · split
    · exact Requester.decideAdaptive_settings _ _ _ _
    · exact Requester.decideFixed_settings _ _ _ _
  · split
    · exact Requester.decideAdaptive_settings _ _ _ _
    · exact Requester.decideFixed_settings _ _ _ _
  · rfl

theorem Requester.partD_settings (q : Requester) (l : Ladder) (x : Control) (v : View) : (q.partD l x v).1.settings = q.settings := by
  unfold Requester.partD
  dsimp only
  split <;> rfl

theorem Requester.arrival_settings (q : Requester) (l : Ladder) (x : Control) (v : View) (good : Option RxHeader) :
    (q.arrival l x v good).1.settings = q.settings := by
  have heard : (q.partA.partB good).1.settings = q.settings := q.partA.partB_settings good
  simp only [Requester.arrival]
  split
  · split
    · exact (Requester.partD_settings _ _ _ _).trans heard
    · exact heard
  · exact (Requester.partC_settings _ _ _ _).trans heard

theorem Scheduler.arrival_ds (d : Scheduler) (running : Bool) (nf : FrameNo) (ceil : Nat) (good : Option RxHeader) :
    (d.arrival running nf ceil good).ds = d.ds := by
  simp only [Scheduler.arrival, Scheduler.answerRequest, Scheduler.forget, Scheduler.schedule, Scheduler.record]
  repeat' (first | rfl | split)

theorem TestUnit.arrival_dw (t : TestUnit) (st : CarrierState) (l : Ladder) (good : Option RxHeader) (slots : List InboundSlot) :
    (t.arrival st l good slots).dw = t.dw := by
  unfold TestUnit.arrival
  repeat' (first | rfl | split)

theorem Carrier.afterArrival_settings (k : Carrier) (f : InboundFrame) (j : Except BadHeader RxHeader) :
    (k.afterArrival f j).settings = k.settings := by
  have heard := Carrier.hear_settings { k with lane := k.lane.countArrival j } (goodOf j)
  rw [Carrier.settings_eq_iff] at heard ⊢
  obtain ⟨control, req, ds, dw⟩ := heard
  exact ⟨control, (Requester.arrival_settings _ _ _ _ _).trans req, (Scheduler.arrival_ds _ _ _ _ _).trans ds,
    (TestUnit.arrival_dw _ _ _ _ _).trans dw⟩

theorem Carrier.afterArrival_est (k : Carrier) (f : InboundFrame) (j : Except BadHeader RxHeader) :
    (k.afterArrival f j).est = k.est.arrival f :=
  congrArg (fun e : Estimator => e.arrival f) (Carrier.hear_est { k with lane := k.lane.countArrival j } (goodOf j))

/-! ### The estimator -/

theorem Estimator.arrival_settings (e : Estimator) (f : InboundFrame) : (e.arrival f).settings = e.settings := by
  unfold Estimator.arrival Estimator.take
  split <;> rfl

/-- A level within 0 to 12,800 and a slope within 2,048 of 0 decide in range: the prediction is at most the level, since only a falling
slope is followed (R49, R50). -/
theorem Estimator.decide_inRange (e : Estimator) {level slope : Int} (hc : ∀ p ∈ e.curve.toList, p ≤ 400)
    (hl : 0 ≤ level ∧ level ≤ 12800) (hs : -2048 ≤ slope ∧ slope ≤ 2048) : (e.decide level slope).inRange := by
  have fall : (e.lp : Int) * min slope 0 ≤ 0 := Int.mul_nonpos_of_nonneg_of_nonpos (Int.natCast_nonneg _) (Int.min_le_right _ _)
  refine ⟨hc, hl, hs, ⟨clampInt_lower _ _ _, ?_⟩, rfl⟩
  show clampInt 0 12800 (level + e.lp * min slope 0) ≤ level
  simp only [clampInt]
  omega

theorem Estimator.steepen_range (e : Estimator) (level : Int) : -2048 ≤ e.steepen level ∧ e.steepen level ≤ 2048 :=
  ⟨clampInt_lower _ _ _, clampInt_upper _ _ _ (by decide)⟩

/-- An arrival keeps the levels in range (R44 to R50). -/
theorem Estimator.arrival_inRange {e : Estimator} (h : e.inRange) (f : InboundFrame) : (e.arrival f).inRange := by
  obtain ⟨curve, level, -, -, -⟩ := h
  have sample := e.penalise_range f.lock f.x f.b curve
  cases first : e.firstSample with
  | true =>
    rw [e.arrival_of_firstSample f first]
    exact e.decide_inRange curve (by omega) (by decide)
  | false =>
    rw [e.arrival_of_laterSample f first]
    have filtered := e.filter_between (e.penalise f.lock f.x f.b)
    exact e.decide_inRange curve (by omega) (e.steepen_range _)

/-- A cleared estimator is in range, whatever it held. -/
theorem Estimator.cleared_inRange {e : Estimator} (h : e.inRange) : e.cleared.inRange := by
  obtain ⟨curve, -⟩ := h
  exact ⟨curve, by simp [Estimator.cleared]⟩

theorem Carrier.keeps_afterArrival (k : Carrier) (f : InboundFrame) (j : Except BadHeader RxHeader) : k.Keeps (k.afterArrival f j) := by
  refine ⟨Carrier.settingsOk_of_same (k.afterArrival_settings f j) ?_, fun h => ?_⟩
  · rw [k.afterArrival_est f j]; exact k.est.arrival_settings f
  · rw [k.afterArrival_est f j]; exact Estimator.arrival_inRange h f

theorem State.keeps_signalMarks (s : State) (c : CarrierId) (m : Marks) : s.Keeps (s.signalMarks c m) :=
  (s.keeps_signalIf _ _).trans (State.keeps_signalIf _ _ _)

theorem State.keeps_capture (s : State) (c : CarrierId) (o : Observation) : s.Keeps (s.capture c o) :=
  State.keeps_of_carriers (by simp) (by simp [State.deviceSettings])

theorem State.keeps_inbound (s : State) (c : CarrierId) (f : InboundFrame) (taken : Nat) : s.Keeps (s.inbound c f taken) := by
  by_cases off : (s.car c).control.state = .off
  · simp only [State.inbound, if_pos off]
    exact State.keeps_setCar (Carrier.keeps_of_same rfl rfl)
  · rw [State.inbound_eq off]
    have arrived : s.Keeps (s.setCar c ((s.car c).afterArrival f (judgeHeader (s.car c).ladder.length f))) :=
      State.keeps_setCar (Carrier.keeps_afterArrival _ f _)
    refine State.Keeps.trans ?_ (State.keeps_takeItems _ _ _)
    refine State.Keeps.trans ?_ (State.keeps_capture _ _ _)
    refine State.Keeps.trans ?_ (State.keeps_signalMarks _ _ _)
    refine State.Keeps.trans ?_ (State.keeps_signalContribution _ _)
    exact (arrived.trans (State.keeps_signalIf _ _ _)).trans (State.keeps_signalIf _ _ _)

/-! ### The commands -/

/-- A change of the Requester, the Scheduler, the lane and the like that leaves the settings, with the estimator cleared or not. -/
theorem Carrier.keeps_of_cleared {k k' : Carrier} (h : k'.settings = k.settings) (he : k'.est = k.est.cleared) : k.Keeps k' :=
  ⟨Carrier.settingsOk_of_same h (by rw [he]; rfl), fun hk => by rw [he]; exact Estimator.cleared_inRange hk⟩

theorem changeMode_settings (k : Carrier) (m : Mode) : (changeMode k m).settings = k.settings ∧ (changeMode k m).est = k.est := by
  unfold changeMode
  split <;> exact ⟨rfl, rfl⟩

theorem Carrier.keeps_changeFixed {k : Carrier} {p : Nat} (hp : p ≤ 11) : k.Keeps (changeFixed k p) := by
  unfold changeFixed
  dsimp only
  refine ⟨fun ⟨h1, h2, _, rest⟩ => ?_, fun h => ?_⟩
  · split <;> exact ⟨h1, h2, hp, rest⟩
  · split <;> exact h

theorem Scheduler.lowerCeiling_ds (d : Scheduler) (ceil : Nat) : (d.lowerCeiling ceil).ds = d.ds := by
  simp only [Scheduler.lowerCeiling, Scheduler.lowerScheduled]
  repeat' (first | rfl | split)

theorem ceilingLowered_settings (k : Carrier) (ceil : Nat) : (ceilingLowered k ceil).settings = k.settings := by
  rw [Carrier.settings_eq_iff]
  refine ⟨rfl, rfl, k.sched.lowerCeiling_ds ceil, ?_⟩
  unfold ceilingLowered
  dsimp only
  split <;> rfl

theorem Carrier.keeps_changeTxCeiling {k : Carrier} {p : Nat} (hp : p ≤ 11) : k.Keeps (changeTxCeiling k p) := by
  have stored : k.Keeps (k.onControl (fun x => { x with txCeiling := p })) :=
    ⟨fun ⟨h1, h2, h3, h4, _, rest⟩ => ⟨h1, h2, h3, h4, hp, rest⟩, id⟩
  unfold changeTxCeiling
  dsimp only
  split
  · refine ⟨fun h => ?_, stored.2⟩
    exact Carrier.settingsOk_of_same (ceilingLowered_settings _ _) rfl (stored.1 h)
  · exact stored

/-- What a SET of a parameter of a carrier stores keeps its settings in their ranges. -/
theorem Carrier.keeps_stored {p : Param} (plain : plainParam p = true) {k k' : Carrier} {v : Int} {r : Result}
    (h : storeCarrierParam p k v = some (r, k')) : k.Keeps k' := by
  cases p
  case recovery =>
    simp only [storeCarrierParam, storeRecovery] at h
    split_ifs at h <;> cases h <;> exact Carrier.keeps_of_same rfl rfl
  case adaptationMode =>
    simp only [storeCarrierParam, storeMode] at h
    split_ifs at h <;> cases h <;> exact Carrier.keeps_of_same (changeMode_settings _ _).1 (changeMode_settings _ _).2
  case fixedProfile =>
    rw [storeFixed_eq] at h; cases h
    have := clampInt_upper 0 11 v (by decide)
    exact Carrier.keeps_changeFixed (by omega)
  case rxFloor =>
    simp only [storeCarrierParam, storeRxFloor] at h
    split_ifs at h with low
    cases h
    exact ⟨fun ⟨h1, h2, h3, ⟨_, h5⟩, rest⟩ => ⟨h1, h2, h3, ⟨Nat.le_of_not_lt low, h5⟩, rest⟩, id⟩
  case rxCeiling =>
    simp only [storeCarrierParam, storeRxCeiling] at h
    split_ifs at h with high
    cases h
    have := clampInt_upper 0 11 v (by decide)
    exact ⟨fun ⟨h1, h2, h3, _, rest⟩ => ⟨h1, h2, h3, ⟨Nat.le_of_not_lt high, Int.toNat_le.2 this⟩, rest⟩, id⟩
  case acquisitionCountLimit | freshnessLimit | blockPenalty | fallShift | riseShift | slopeShift | lookahead | upshiftDwell | holdOff |
      urgentSlope | requestTime | stepDelay | sweepDwell =>
    simp only [storeNa_eq, storeTf_eq, storePb_eq, storeAd_eq, storeAu_eq, storeBs_eq, storeLp_eq, storeNu_eq, storeTh_eq, storeGu_eq,
      storeTr_eq, storeDs_eq, storeDw_eq, Option.some.injEq, Prod.mk.injEq] at h
    obtain ⟨-, rfl⟩ := h
    exact ⟨fun hk => by simp only [Carrier.settingsOk, clampInt] at hk ⊢; omega, id⟩
  all_goals cases plain

end Sys2Proof.Machine
end


section
/-! PROOFS. Settings and levels, concluded: the effects of the commands, a device reset, every event, and O58. -/

namespace Sys2Proof.Machine

/-! ### A device reset -/

theorem State.reset_settingsOk : State.reset.settingsOk := by decide

theorem State.reset_levelsOk : State.reset.levelsOk := by decide

theorem State.keeps_reset (s : State) : State.reset.Keeps s.deviceReset := State.keeps_of_carriers rfl rfl

theorem State.keeps_deviceReset (s t : State) : s.Keeps t.deviceReset :=
  ⟨fun _ => t.keeps_reset.1 State.reset_settingsOk, fun _ => t.keeps_reset.2 State.reset_levelsOk⟩

/-! ### The effects of the commands -/

/-- A table after values at most `b` were stored holds no value above what it held and `b`. -/
theorem storeFrom_le {n b : Nat} (v : Vector Nat n) (start : Nat) (l : List Nat) (hv : ∀ p ∈ v.toList, p ≤ b) (hl : ∀ p ∈ l, p ≤ b) :
    ∀ p ∈ (storeFrom v start l).toList, p ≤ b := by
  induction l generalizing v start with
  | nil => exact hv
  | cons x l ih =>
    refine ih _ _ (fun p hp => ?_) fun p hp => hl p (List.mem_cons_of_mem _ hp)
    obtain ⟨i, hi, rfl⟩ := List.getElem_of_mem hp
    rw [Vector.getElem_toList, Vector.getElem_setIfInBounds]
    split
    · exact hl x List.mem_cons_self
    · exact hv _ (by simp)

theorem Carrier.keeps_curve (k : Carrier) (start : Nat) {l : List Nat} (hl : ∀ p ∈ l, p ≤ 400) :
    k.Keeps (k.onEst (fun e => { e with curve := storeFrom e.curve start l })) :=
  ⟨id, fun ⟨curve, rest⟩ => ⟨storeFrom_le _ _ _ curve hl, rest⟩⟩

theorem Carrier.keeps_startSweep (k : Carrier) (p : Nat) (dwell : Option (BitVec 16)) :
    k.Keeps (k.startSweep p (sweepDwellOf k dwell)) := by
  refine ⟨fun h => ?_, id⟩
  simp only [Carrier.settingsOk, Carrier.startSweep] at h ⊢
  have dw : 1 ≤ sweepDwellOf k dwell ∧ sweepDwellOf k dwell ≤ 65535 := by
    cases dwell with
    | none => simp only [sweepDwellOf]; tauto
    | some d => simp only [sweepDwellOf]; omega
  tauto

theorem State.keeps_cutCapture (s : State) (c : CarrierId) : s.Keeps (s.cutCapture c) := by
  unfold State.cutCapture
  split <;> exact State.keeps_of_carriers rfl rfl

theorem State.keeps_clearStatus (s : State) : s.Keeps s.clearStatus := by
  refine State.keeps_of_same rfl fun c => ?_
  simp only [State.car, State.clearStatus_carriers, Quad.get_map]
  exact Carrier.keeps_of_same rfl rfl

/-- Whatever a command does, it keeps the settings and the levels in their ranges. -/
theorem State.Effect.keeps {s t : State} (h : s.Effect t) : s.Keeps t := by
  cases h with
  | none => exact s.keeps_refl
  | cleared => exact s.keeps_clearStatus
  | ladder c l => exact State.keeps_setCar (Carrier.keeps_of_same rfl rfl)
  | curve c start l fits => exact State.keeps_setCar (Carrier.keeps_curve _ start fits)
  | classifier x => exact State.keeps_of_carriers rfl rfl
  | shedTable t fits =>
    have stored : s.Keeps { s with admission := { s.admission with shedTable := t } } :=
      ⟨fun ⟨h1, h2, h3, h4, h5, h6⟩ => ⟨h1, h2, h3, h4, h5, fun k => (fits k).trans (Nat.max_le.2 ⟨h6 k, Nat.le_refl _⟩)⟩, id⟩
    exact stored.trans (State.keeps_of_carriers (by simp) (by simp [State.deviceSettings]))
  | limits t fits =>
    exact ⟨fun ⟨h1, h2, h3, h4, h5, h6⟩ => ⟨h1, h2, h3, h4, fun k => (fits k).trans (Nat.max_le.2 ⟨h5 k, Nat.le_refl _⟩), h6⟩, id⟩
  | param c p v r k plain stored => exact State.keeps_setCar (Carrier.keeps_stored plain stored)
  | txCeiling c p fits => exact (s.keeps_completeFillOf c).trans (State.keeps_setCar (Carrier.keeps_changeTxCeiling fits))
  | gapTime n fits => exact ⟨fun ⟨h1, _, rest⟩ => ⟨h1, fits, rest⟩, id⟩
  | lateRun n fits => exact ⟨fun ⟨h1, h2, _, rest⟩ => ⟨h1, h2, fits, rest⟩, id⟩
  | typeCode n fits => exact ⟨fun ⟨h1, h2, h3, _, rest⟩ => ⟨h1, h2, h3, fits, rest⟩, id⟩
  | alert a => exact State.keeps_of_carriers rfl rfl
  | enable c =>
    exact (State.keeps_setCar (k := (s.car c).enabled) (Carrier.keeps_of_cleared rfl rfl)).trans (State.keeps_signalContribution _ c)
  | disable c =>
    refine ((s.keeps_completeFillOf c).trans ?_).trans (State.keeps_signalContribution _ c)
    have disabled := Carrier.keeps_of_cleared (k := (s.completeFillOf c).car c) (k' := ((s.completeFillOf c).car c).disabled) rfl rfl
    exact (State.keeps_setCar disabled).trans (State.keeps_cutCapture _ c)
  | restart c =>
    refine ((s.keeps_completeFillOf c).trans ?_).trans (State.keeps_signalContribution _ c)
    exact State.keeps_setCar (Carrier.keeps_of_cleared rfl rfl)
  | testEnter c p =>
    refine ((s.keeps_completeFillOf c).trans ?_).trans (State.keeps_signalContribution _ c)
    exact State.keeps_setCar (Carrier.keeps_of_same rfl rfl)
  | testLeave c =>
    exact (State.keeps_setCar (k := (s.car c).leaveTest) (Carrier.keeps_of_same rfl rfl)).trans (State.keeps_signalContribution _ c)
  | clearHold c => exact (s.keeps_completeFillOf c).trans (State.keeps_setCar (Carrier.keeps_of_same rfl rfl))
  | sweep c p dwell => exact State.keeps_setCar (Carrier.keeps_startSweep _ p dwell)
  | emptied y => exact State.keeps_of_carriers rfl rfl
  | trafficReset => exact s.keeps_completeFill.trans (State.keeps_of_carriers rfl rfl)
  | deviceReset => exact s.keeps_deviceReset s

theorem State.keeps_returned (s : State) (r : Reply) : s.Keeps (s.returned r) := State.keeps_of_carriers rfl rfl

theorem State.keeps_runAlone (s : State) (x : Command) : s.Keeps (s.runAlone x) :=
  (checkAndRun_effect (.ok x) 3 0 s).keeps.trans (State.keeps_returned _ _)

/-! ### A frame of commands -/

theorem State.keeps_beginFrameExecution (s : State) : s.Keeps s.beginFrameExecution := by
  unfold State.beginFrameExecution
  split
  · exact s.keeps_refl
  · split <;> exact State.keeps_of_carriers rfl rfl

theorem State.keeps_finishFrame (s : State) : s.Keeps s.finishFrame := by
  unfold State.finishFrame
  split
  · rename_i q _ _ _
    have popped : s.Keeps { s.popFrame with agent := { s.popFrame.agent with responsesSent := bump s.popFrame.agent.responsesSent } } :=
      State.keeps_of_carriers rfl rfl
    dsimp only
    unfold State.sendResponse
    split
    · exact popped.trans (State.keeps_of_carriers rfl rfl)
    · exact popped.trans (State.keeps_admitFrame _ _ _)
  · exact s.keeps_refl

theorem State.keeps_noteEntry (s : State) (x : Execution) (e : ReplyEntry) : s.Keeps (s.noteEntry x e) := State.keeps_of_carriers rfl rfl

theorem State.keeps_ranOne (s : State) (x : Execution) (raw : RawCommand) (following : Nat) : s.Keeps (s.ranOne x raw following) :=
  ((checkAndRun_effect _ _ _ s).keeps.trans (State.keeps_returned _ _)).trans (State.keeps_noteEntry _ _ _)

theorem State.keeps_executeFrame (s : State) (n : Nat) : s.Keeps (s.executeFrame n) :=
  State.executeFrame_keeps (P := s.Keeps) (fun t h => h.trans t.keeps_beginFrameExecution) (fun t h => h.trans t.keeps_finishFrame)
    (fun t _ => s.keeps_deviceReset t) (fun t x raw rest _ _ h => h.trans (t.keeps_ranOne x raw rest.length)) n s.keeps_refl

/-! ### Ingress -/

theorem State.keeps_classify (s : State) (f : Frame) : s.Keeps (s.classify f) := by
  unfold State.classify
  split
  · rename_i i e _
    split
    · exact State.Keeps.trans (t := { s with classifier := s.classifier.countHit i e }) (State.keeps_of_carriers rfl rfl)
        (State.keeps_admitFrame _ _ _)
    · exact State.keeps_of_carriers rfl rfl
  · exact State.Keeps.trans (t := { s with classifier := { s.classifier with defaultFrames := bump s.classifier.defaultFrames } })
      (State.keeps_of_carriers rfl rfl) (State.keeps_admitFrame _ _ _)

theorem State.keeps_withSite (s : State) (x : SitePort) : s.Keeps { s with site := x } := State.keeps_of_carriers rfl rfl

theorem State.keeps_ingress (s : State) (f : Frame) : s.Keeps (s.ingress f) := by
  unfold State.ingress
  split_ifs
  case neg =>
    unfold State.acceptIngress
    dsimp only
    split
    · exact ((s.keeps_withSite _).trans (State.keeps_withSite _ _)).trans (State.keeps_enqueue _ _ _)
    · exact (s.keeps_withSite _).trans (State.keeps_classify _ _)
  all_goals exact s.keeps_withSite _

/-! ### Every event -/

theorem State.Event.keeps {s t : State} (h : s.Event t) : s.Keeps t := by
  cases h with
  | idle => exact s.keeps_refl
  | start c m =>
    refine (s.keeps_beforeStart c).trans (State.Keeps.trans (State.keeps_setCar ?_) (State.keeps_of_carriers rfl rfl))
    refine Carrier.keeps_of_same ?_ rfl
    rw [Carrier.settings_eq_iff]
    refine ⟨rfl, ?_, rfl, rfl⟩
    unfold Carrier.started Requester.countStart
    dsimp only
    repeat' (first | rfl | split)
  | fill => exact s.keeps_fill
  | fillNext => exact s.keeps_fillNext
  | arrival c f n => exact (s.keeps_completeFillOf c).trans (State.keeps_inbound _ c f n)
  | item c i => exact s.keeps_takeItem c i
  | tick => exact s.keeps_reseqClosed.tick s.keeps_refl
  | ingress f => exact s.keeps_ingress f
  | frame n => exact s.keeps_executeFrame n
  | command x => exact s.keeps_runAlone x
  | reset p => exact s.keeps_deviceReset _
  | release p => exact State.keeps_of_carriers rfl rfl

/-- Settles O58: every event keeps settings and levels, since it leaves them, clamps what it stores, or passes the stages of the
estimator. -/
theorem stepKeepsSettingsAndLevels : Obligations.StepKeepsSettingsAndLevels := by
  intro s t h
  exact ⟨step_keeps (P := State.settingsOk) (fun _ _ hs => hs) (fun _ _ event => event.keeps.1) h,
    step_keeps (P := State.levelsOk) (fun _ _ hs => hs) (fun _ _ event => event.keeps.2) h⟩

end Sys2Proof.Machine
end


section
/-! PROOFS. The stores (R112, R113, R126, R133, R161, R169, R173): what leaves every store, the draws of a fill, the window store under the
Resequencer's events, and the length of what a command returns. -/

namespace Sys2Proof.Machine

/-! ### The stores read, and what leaves them -/

/-- The stores of a state but for the window store. -/
abbrev State.otherStoresOk (s : State) : Prop :=
  s.history.ring.length ≤ 512 ∧ s.agent.queue.length ≤ 4 ∧ s.agent.responseOk ∧ s.queues.heldOk ∧ s.queues.occupancy.sum ≤ 16384 ∧
    s.drawnOk ∧ s.admission.shed.at0 = false

/-- What the forms of the stores are read from, but for the window store. -/
def State.otherStores (s : State) :=
  (s.history.ring, s.agent.queue, s.agent.execution, s.queues, s.filling, s.admission.shed.at0)

theorem State.otherStoresOk_of_same {s t : State} (h : t.otherStores = s.otherStores) (hs : s.otherStoresOk) : t.otherStoresOk := by
  simp only [State.otherStores, Prod.mk.injEq] at h
  simpa only [State.otherStoresOk, Agent.responseOk, State.drawnOk, h] using hs

theorem State.storesOk_of_same {s t : State} (hw : t.reseq.window = s.reseq.window) (h : t.otherStores = s.otherStores)
    (hs : s.storesOk) : t.storesOk := by
  obtain ⟨window, others⟩ := hs
  exact ⟨by rw [hw]; exact window, State.otherStoresOk_of_same h others⟩

theorem State.storesOk_signalIf {s : State} (h : s.storesOk) (b : Bool) (l : Latch) : (s.signalIf b l).storesOk :=
  State.storesOk_of_same (by simp) (by simp [State.otherStores]) h

theorem State.storesOk_signalContribution {s : State} (h : s.storesOk) (c : CarrierId) : (s.signalContribution c).storesOk :=
  State.storesOk_of_same (by simp) (by simp [State.otherStores]) h

/-! ### The draws of a fill -/

/-- `n` sequence numbers one after the other. -/
def seqRun (a : SeqNo) (n : Nat) : List SeqNo := (List.range n).map (fun i => a + BitVec.ofNat 16 i)

theorem seqRun_append (a : SeqNo) (m n : Nat) : seqRun a m ++ seqRun (a + BitVec.ofNat 16 m) n = seqRun a (m + n) := by
  simp only [seqRun, List.range_add, List.map_append, List.map_map]
  congr 1
  refine List.map_congr_left fun i _ => ?_
  simp only [Function.comp_apply, BitVec.ofNat_add, BitVec.add_assoc]

theorem seqRun_cons (a : SeqNo) (n : Nat) : a :: seqRun (a + 1) n = seqRun a (n + 1) := by
  have one : seqRun a 1 = [a] := by simp [seqRun]
  rw [Nat.add_comm, ← seqRun_append, one]
  rfl

/-- The draws of a fill: data segments numbered one after the other from the sequence counter, which ends behind the last (R126), while the
occupancies keep counting the slots held (R113). -/
theorem Queues.drawMany_held (n : Nat) (q : Queues) :
    (q.drawMany n).1.map Segment.seq = seqRun q.seq (q.drawMany n).1.length ∧
      (q.drawMany n).2.seq = q.seq + BitVec.ofNat 16 (q.drawMany n).1.length ∧
      (∀ g ∈ (q.drawMany n).1, g.idle = false) ∧
      (q.heldOk → (q.drawMany n).2.heldOk ∧ (q.drawMany n).2.occupancy.sum + (q.drawMany n).1.length = q.occupancy.sum) := by
  induction n generalizing q with
  | zero => simp [Queues.drawMany, seqRun]
  | succ n ih =>
    rcases hd : q.draw with _ | ⟨g, q'⟩
    · simp [Queues.drawMany, hd, seqRun]
    · obtain ⟨seq, number, data, held⟩ := Queues.draw_held hd
      obtain ⟨numbers, last, idle, rest⟩ := ih q'
      simp only [Queues.drawMany, hd, List.map_cons, List.length_cons, List.forall_mem_cons]
      refine ⟨?_, ?_, ⟨data, idle⟩, fun hq => ?_⟩
      · rw [numbers, number, seq, seqRun_cons]
      · rw [last, seq, Nat.add_comm, BitVec.ofNat_add, BitVec.add_assoc]
        rfl
      · obtain ⟨hq', sum⟩ := held hq
        obtain ⟨kept, sums⟩ := rest hq'
        exact ⟨kept, by omega⟩

/-- The segments drawn for a fill bear the numbers that end at the sequence counter. -/
abbrev OpenFill.numbered (w : OpenFill) (seq : SeqNo) : Prop :=
  (∀ g ∈ w.drawn, g.idle = false) ∧ w.drawn.map Segment.seq = seqRun (seq - BitVec.ofNat 16 w.drawn.length) w.drawn.length

theorem State.drawnOk_iff (s : State) : s.drawnOk ↔ ∀ w ∈ s.filling, w.numbered s.queues.seq := by
  simp only [State.drawnOk, OpenFill.numbered, seqRun, List.all_eq_true, Bool.not_eq_true']

/-- More draws keep the numbers of a fill in order. -/
theorem OpenFill.numbered_drawMany {w : OpenFill} {q : Queues} (h : w.numbered q.seq) (n : Nat) :
    ({ w with drawn := w.drawn ++ (q.drawMany n).1 } : OpenFill).numbered (q.drawMany n).2.seq := by
  obtain ⟨data, numbers⟩ := h
  obtain ⟨drawn, last, idle, -⟩ := q.drawMany_held n
  refine ⟨fun g hg => (List.mem_append.1 hg).elim (data g) (idle g), ?_⟩
  have start : (q.drawMany n).2.seq - BitVec.ofNat 16 (w.drawn ++ (q.drawMany n).1).length =
      q.seq - BitVec.ofNat 16 w.drawn.length := by
    rw [last, List.length_append, BitVec.ofNat_add]
    ring
  rw [start, List.map_append, numbers, drawn, List.length_append, ← seqRun_append, BitVec.sub_add_cancel]

/-- The draws that a fill makes keep the forms of the queues. -/
theorem State.otherStoresOk_drawOn {s : State} (h : s.otherStoresOk) (n : Nat) : (s.drawOn n).otherStoresOk := by
  rcases hf : s.filling with _ | w
  · rw [State.drawOn_none hf]; exact h
  · obtain ⟨ring, queue, response, held, sum, drawn, shed⟩ := h
    obtain ⟨-, -, -, kept⟩ := s.queues.drawMany_held (min n (s.fillCapacity w - w.drawn.length))
    obtain ⟨held', sum'⟩ := kept held
    have numbered := OpenFill.numbered_drawMany ((s.drawnOk_iff.1 drawn) w hf) (min n (s.fillCapacity w - w.drawn.length))
    rw [State.drawOn_some hf]
    dsimp only
    split
    · refine ⟨ring, queue, response, held', ?_, ?_, shed⟩
      · show Quad.sum (s.queues.drawMany _).2.occupancy ≤ 16384
        omega
      · refine (State.drawnOk_iff _).2 fun w' hw' => ?_
        cases hw'
        exact numbered
    · refine ⟨ring, queue, response, held', ?_, ?_, shed⟩
      · show Quad.sum (s.queues.drawMany _).2.occupancy ≤ 16384
        omega
      · exact fun w' hw' => nomatch hw'

@[simp] theorem State.drawOn_reseq (s : State) (n : Nat) : (s.drawOn n).reseq = s.reseq := by
  rcases hf : s.filling with _ | w
  · rw [State.drawOn_none hf]
  · rw [State.drawOn_some hf]
    dsimp only
    split <;> rfl

theorem State.storesOk_drawOn {s : State} (h : s.storesOk) (n : Nat) : (s.drawOn n).storesOk := by
  obtain ⟨window, others⟩ := h
  exact ⟨by rw [State.drawOn_reseq]; exact window, State.otherStoresOk_drawOn others n⟩

theorem State.storesOk_completeFill {s : State} (h : s.storesOk) : s.completeFill.storesOk := by
  unfold State.completeFill
  split
  · exact h
  · exact State.storesOk_drawOn h _

theorem State.storesOk_completeFillOf {s : State} (h : s.storesOk) (c : CarrierId) : (s.completeFillOf c).storesOk :=
  State.completeFillOf_keeps (P := State.storesOk) (fun _ => State.storesOk_completeFill) c h

/-- A grant begins a fill without a draw. -/
theorem State.storesOk_grantFill {s : State} (h : s.storesOk) : s.grantFill.storesOk := by
  unfold State.grantFill
  split
  · rename_i c n _
    have begun : (s.beginFill c n).storesOk := by
      have chosen : (s.setCar c ((s.car c).chooseProfile n).dropRequest).storesOk := State.storesOk_of_same rfl rfl h
      exact State.storesOk_signalContribution (State.storesOk_signalIf chosen _ _) c
    unfold State.openFill
    dsimp only
    split
    · exact State.storesOk_of_same rfl rfl h
    · split
      · obtain ⟨window, ring, queue, response, held, sum, -, shed⟩ := begun
        refine ⟨window, ring, queue, response, held, sum, fun w hw => ?_, shed⟩
        cases hw
        exact ⟨rfl, rfl⟩
      · exact State.storesOk_of_same rfl rfl begun
      · exact State.storesOk_of_same rfl rfl begun
  · exact h

theorem State.storesOk_goOn {s : State} (h : s.storesOk) : s.goOn.storesOk := by
  unfold State.goOn
  split
  · exact h
  · exact State.storesOk_completeFill h
  · rename_i rest _ _
    exact State.storesOk_drawOn (State.storesOk_of_same (s := s) (t := { s with drawPlan := rest }) rfl rfl h) _

theorem State.storesOk_fill {s : State} (h : s.storesOk) : s.fill.storesOk := by
  unfold State.fill
  split
  · exact State.storesOk_goOn h
  · exact State.storesOk_goOn (State.storesOk_grantFill h)

/-! ### The window store under the Resequencer's events -/

theorem State.windowOk_segmentUnsynced {s : State} (h : windowOk s.reseq.window = true) (g : Segment) :
    windowOk (s.segmentUnsynced g).reseq.window = true := by
  unfold State.segmentUnsynced
  split
  · exact (State.deliverFrom_window (s := s.onReseq _) rfl _).1
  · exact h

theorem State.windowOk_takeSegment {s : State} (h : windowOk s.reseq.window = true) (g : Segment) :
    windowOk (s.takeSegment g).reseq.window = true := by
  simp only [State.takeSegment, State.segmentSynced, State.segmentLate_eq]
  split
  · split
    · split
      · exact State.windowOk_segmentUnsynced (s := s.onReseq Reseq.lateResync) rfl g
      · exact h
    · split
      · rename_i near
        split
        · exact h
        · rename_i empty
          refine (State.deliverFrom_window (s := s.onReseq _) ?_ _).1
          exact windowPut_ok h near (by simpa using empty)
      · exact State.windowOk_segmentUnsynced (s := s.onReseq Reseq.resync) rfl g
  · exact State.windowOk_segmentUnsynced h g

theorem State.windowOk_takeLoss {s : State} (h : windowOk s.reseq.window = true) (q : SeqNo) :
    windowOk (s.takeLoss q).reseq.window = true := by
  simp only [State.takeLoss]
  split
  · rename_i inWindow
    simp only [Bool.and_eq_true, decide_eq_true_eq, Option.isNone_iff_eq_none] at inWindow
    obtain ⟨⟨-, near⟩, empty⟩ := inWindow
    refine (State.deliverFrom_window (s := s.onReseq _) ?_ _).1
    exact windowPut_ok h near empty
  · exact h

theorem State.windowOk_takeItem {s : State} (h : windowOk s.reseq.window = true) (i : Item) :
    windowOk (s.takeItem i).reseq.window = true := by
  cases i with
  | segment g => exact State.windowOk_takeSegment h g
  | loss q => exact State.windowOk_takeLoss h q

theorem State.windowOk_tick {s : State} (h : windowOk s.reseq.window = true) : windowOk s.tick.reseq.window = true := by
  unfold State.tick
  split
  · split
    · refine (State.deliverFrom_window (s := s.onReseq _) ?_ _).1
      exact windowOk_lostRun h
    · exact h
  · exact h

/-- A frame that joins the input queue leaves it with at most four. -/
theorem State.otherStoresOk_enqueue {s : State} (h : s.otherStoresOk) (sd : Side) (f : Frame) : (s.enqueue sd f).otherStoresOk := by
  obtain ⟨ring, queue, response, rest⟩ := h
  obtain ⟨a, -, execution, length, e⟩ := s.enqueue_cases sd f
  have joined : State.otherStoresOk { s with agent := a } :=
    ⟨ring, length.trans (Nat.max_le.2 ⟨queue, Nat.le_refl _⟩), by rw [Agent.responseOk, execution]; exact response, rest⟩
  rcases e with e | e
  · rw [e]; exact State.otherStoresOk_of_same (s := { s with agent := a }) rfl joined
  · rw [e]; exact joined

theorem State.otherStoresOk_reseqClosed : State.ReseqClosed State.otherStoresOk where
  onReseq _ _ _ h := State.otherStoresOk_of_same rfl h
  signal _ _ h := State.otherStoresOk_of_same rfl h
  egress _ _ h := State.otherStoresOk_of_same rfl h
  enqueue _ sd f h := State.otherStoresOk_enqueue h sd f

theorem State.storesOk_takeItem {s : State} (h : s.storesOk) (c : CarrierId) (i : Item) : ((s.dropItem c).takeItem i).storesOk := by
  obtain ⟨window, others⟩ := h
  exact ⟨State.windowOk_takeItem (s := s.dropItem c) window i,
    State.otherStoresOk_reseqClosed.takeItem i (State.otherStoresOk_of_same (t := s.dropItem c) rfl others)⟩

theorem State.storesOk_tick {s : State} (h : s.storesOk) : s.tick.storesOk :=
  ⟨State.windowOk_tick h.1, State.otherStoresOk_reseqClosed.tick h.2⟩

/-! ### An inbound arrival -/

theorem State.capture_ring {s : State} (h : s.history.ring.length ≤ 512) (c : CarrierId) (o : Observation) :
    (s.capture c o).history.ring.length ≤ 512 := by
  simp only [State.capture]
  split
  · split <;> exact History.write_ring h o
  · exact h

@[simp] theorem State.capture_filling (s : State) (c : CarrierId) (o : Observation) : (s.capture c o).filling = s.filling := by
  simp only [State.capture]
  split
  · split <;> rfl
  · rfl

theorem State.storesOk_capture {s : State} (h : s.storesOk) (c : CarrierId) (o : Observation) : (s.capture c o).storesOk := by
  obtain ⟨window, ring, rest⟩ := h
  refine ⟨by rw [State.capture_reseq]; exact window, State.capture_ring ring c o, ?_⟩
  simpa only [State.drawnOk, State.capture_agent, State.capture_queues, State.capture_filling, State.capture_admission] using rest

theorem State.storesOk_inbound {s : State} (h : s.storesOk) (c : CarrierId) (f : InboundFrame) (taken : Nat) :
    (s.inbound c f taken).storesOk := by
  by_cases off : (s.car c).control.state = .off
  · simp only [State.inbound, if_pos off]
    exact State.storesOk_of_same rfl rfl h
  · rw [State.inbound_eq off]
    refine State.takeItems_keeps (P := State.storesOk) (fun _ i hs => State.storesOk_takeItem hs c i) taken ?_
    refine State.storesOk_capture ?_ c _
    refine State.storesOk_signalIf (State.storesOk_signalIf (State.storesOk_signalContribution ?_ c) _ _) _ _
    refine State.storesOk_signalIf (State.storesOk_signalIf ?_ _ _) _ _
    exact State.storesOk_of_same (s := s) (t := s.setCar c ((s.car c).afterArrival f (judgeHeader (s.car c).ladder.length f))) rfl rfl h

end Sys2Proof.Machine
end


section
/-! PROOFS. The stores, concluded: the lengths of what a command returns (R171, R173), Class Admission (R113), the commands, every event,
and O56. -/

namespace Sys2Proof.Machine

/-! ### The data that a command returns -/

theorem flatten_length_le {l : List (List Byte)} {w : Nat} (h : ∀ p ∈ l, p.length ≤ w) : l.flatten.length ≤ w * l.length := by
  induction l with
  | nil => simp
  | cons p l ih =>
    rw [List.forall_mem_cons] at h
    have rest := ih h.2
    rw [List.flatten_cons, List.length_append, List.length_cons, Nat.mul_succ]
    omega

/-- Positions of at most `w` bytes each are read into at most `w` bytes for each position asked for. -/
theorem readPositions_length {l : List (List Byte)} {w : Nat} (h : ∀ p ∈ l, p.length ≤ w) (start n : Byte) (s : State) :
    (readPositions l start n s).1.data.length ≤ w * n.toNat := by
  unfold readPositions
  split
  · exact Nat.zero_le _
  · exact (flatten_length_le fun p hp => h p (List.mem_of_mem_drop (List.mem_of_mem_take hp))).trans
      (Nat.mul_le_mul_left _ (List.length_take_le _ _))

@[simp] theorem resultRowBytes_length (r : ResultRow) : (resultRowBytes r).length = 12 := rfl

/-- The result set is read into 12 bytes for each row and 8 for the two counts (section 13.3). -/
theorem readPositions_testResults_length (t : TestUnit) (start n : Byte) (s : State) :
    (readPositions (testResults t) start n s).1.data.length ≤
      12 * n.toNat - (if start.toNat ≤ 12 ∧ 12 < start.toNat + n.toNat then 4 else 0) := by
  have width : ∀ p ∈ testResults t, p.length ≤ 12 := by
    intro p hp
    simp only [testResults, List.mem_append, List.mem_map, List.mem_singleton] at hp
    rcases hp with ⟨r, -, rfl⟩ | rfl
    · exact Nat.le_refl _
    · simp
  by_cases last : start.toNat ≤ 12 ∧ 12 < start.toNat + n.toNat
  · rw [if_pos last]
    obtain ⟨low, high⟩ := last
    have rows : (t.rows.toList.map resultRowBytes).length = 12 := by simp
    unfold readPositions
    split
    · exact Nat.zero_le _
    · rename_i inside
      have count : (testResults t).length = 13 := by simp [testResults]
      have asked : n.toNat = 13 - start.toNat := by omega
      have whole : ((testResults t).drop start.toNat).take n.toNat = (testResults t).drop start.toNat :=
        List.take_of_length_le (by rw [List.length_drop]; omega)
      have split : (testResults t).drop start.toNat =
          (t.rows.toList.map resultRowBytes).drop start.toNat ++ [be32 t.lostFrames ++ be32 t.nonTest] :=
        List.drop_append_of_le_length (by omega)
      have read : ((t.rows.toList.map resultRowBytes).drop start.toNat).flatten.length ≤ 12 * (12 - start.toNat) := by
        have := flatten_length_le (w := 12) (l := (t.rows.toList.map resultRowBytes).drop start.toNat) fun p hp => by
          obtain ⟨r, -, rfl⟩ := List.mem_map.1 (List.mem_of_mem_drop hp)
          exact Nat.le_refl _
        rwa [List.length_drop, rows] at this
      show (((testResults t).drop start.toNat).take n.toNat).flatten.length ≤ _
      rw [whole, split, List.flatten_append, List.length_append]
      have counts : [be32 t.lostFrames ++ be32 t.nonTest].flatten.length = 8 := by simp
      omega
  · rw [if_neg last]
    exact readPositions_length width start n s

theorem withCarrier_length {b : Byte} {s : State} {f : CarrierId → Ran} {n : Nat} (h : ∀ c, (f c).1.data.length ≤ n) :
    (withCarrier b s f).1.data.length ≤ n := by
  unfold withCarrier
  split
  · exact h _
  · exact Nat.zero_le _

theorem flowEntryBytes_length (e : FlowEntry) : (flowEntryBytes e).length = 14 := rfl

theorem ladderEntryBytes_length (e : LadderEntry) : (ladderEntryBytes e).length = 8 := rfl

/-- The positions of a table but TEST_RESULTS are of the table's width. -/
theorem deviceTable_width (t : Nat) (s : State) : ∀ p ∈ deviceTable t s, p.length ≤ readWidth t := by
  intro p hp
  unfold deviceTable at hp
  split at hp
  · obtain ⟨e, -, rfl⟩ := List.mem_map.1 hp; exact (flowEntryBytes_length e).le
  · obtain ⟨v, -, rfl⟩ := List.mem_map.1 hp; exact (be16_length v).le
  · obtain ⟨v, -, rfl⟩ := List.mem_map.1 hp; exact (be16_length v).le
  · cases hp

theorem carrierTable_width {t : Nat} (h : t ≠ 7) (k : Carrier) : ∀ p ∈ carrierTable t k, p.length ≤ readWidth t := by
  intro p hp
  unfold carrierTable at hp
  split at hp
  · obtain ⟨e, -, rfl⟩ := List.mem_map.1 hp; exact (ladderEntryBytes_length e).le
  · obtain rfl := List.mem_singleton.1 hp; exact (byteOf_length _).le
  · obtain ⟨v, -, rfl⟩ := List.mem_map.1 hp; exact (be16_length v).le
  · exact absurd rfl h
  · cases hp

theorem runTableRead_length (t b start n : Byte) (s : State) :
    (runTableRead t b start n s).1.data.length ≤ successLength (.tableRead t b start n) s := by
  unfold runTableRead
  split
  · exact Nat.zero_le _
  · split
    · rename_i device
      have : ¬ (t.toNat = 7 ∧ start.toNat ≤ 12 ∧ 12 < start.toNat + n.toNat) := by omega
      rw [successLength, if_neg this]
      exact readPositions_length (deviceTable_width _ s) start n s
    · refine withCarrier_length fun c => ?_
      by_cases results : t.toNat = 7
      · simp only [successLength, results, true_and, readWidth]
        exact readPositions_testResults_length _ start n s
      · rw [successLength, if_neg fun h => results h.1]
        exact readPositions_length (carrierTable_width results _) start n s

theorem setCarrierParam_length (p : Param) (b : Byte) (v : BitVec 32) (s : State) : (setCarrierParam p b v s).1.data.length ≤ 4 := by
  refine withCarrier_length fun c => ?_
  split
  · exact (signed32_length _).le
  · exact Nat.zero_le _

theorem setDeviceParam_length (x : Stored State) (read : State → Int) (s : State) : (setDeviceParam x read s).1.data.length ≤ 4 := by
  unfold setDeviceParam
  split
  · exact (signed32_length _).le
  · exact Nat.zero_le _

theorem runSet_length (p : Param) (b : Byte) (v : BitVec 32) (s : State) : (runSet p b v s).1.data.length ≤ 4 := by
  cases p
  case alertMask => exact (maskBytes_length _).le
  case txCeiling => exact withCarrier_length fun c => setCarrierParam_length _ _ _ _
  case defaultClass | gapTime | lateRunLimit | managementTypeCode => exact setDeviceParam_length _ _ _
  all_goals exact setCarrierParam_length _ _ _ _

theorem runGet_length (p b : Byte) (s : State) : (runGet p b s).1.data.length ≤ 4 := by
  unfold runGet
  split
  · rename_i q _
    cases q
    case alertMask => exact (maskBytes_length _).le
    case defaultClass | gapTime | lateRunLimit | managementTypeCode => exact (signed32_length _).le
    all_goals exact withCarrier_length fun c => (signed32_length _).le
  · exact Nat.zero_le _

theorem positionBytes_length (ring : List Record) (i : Nat) : (positionBytes ring i).length = 16 := by
  unfold positionBytes
  split
  · exact recordBytes_length _ _
  · rfl

theorem runCaptureRead_length (offset : BitVec 16) (n : Byte) (s : State) :
    (runCaptureRead offset n s).1.data.length ≤ 3 + 16 * min n.toNat 32 := by
  unfold runCaptureRead
  dsimp only
  split
  · exact Nat.zero_le _
  · split
    · exact Nat.zero_le _
    · simp only [answer, List.length_append, List.length_flatMap, positionBytes_length, byteOf_length, be16_length, List.map_const',
        List.sum_replicate, List.length_range, smul_eq_mul]
      omega

theorem runTestEnter_length (b p : Byte) (s : State) : (runTestEnter b p s).1.data.length ≤ 1 := by
  refine withCarrier_length fun c => ?_
  split
  · exact Nat.zero_le _
  · exact (byteOf_length _).le

theorem runSweep_length (b start : Byte) (dwell : Option (BitVec 16)) (s : State) : (runSweep b start dwell s).1.data.length ≤ 3 := by
  refine withCarrier_length fun c => ?_
  dsimp only
  split
  · exact Nat.le_refl _
  · exact Nat.zero_le _

theorem runStatus_length (clear : Byte) (s : State) : (runStatus clear s).1.data.length ≤ (statusReport s).length := by
  unfold runStatus
  split
  · exact Nat.le_refl _
  · exact Nat.le_refl _
  · exact Nat.zero_le _

/-- No command returns more data than the check before it measured (R171). -/
theorem runCommand_length (x : Command) (s : State) : (runCommand x s).1.data.length ≤ successLength x s := by
  cases x with
  | status clear => exact runStatus_length clear s
  | tableRead t b start n => exact runTableRead_length t b start n s
  | enable b => exact Nat.le_refl _
  | set p b v => exact runSet_length p b v s
  | get p b => exact runGet_length p b s
  | testEnter b p => exact runTestEnter_length b p s
  | sweep b start dwell => exact runSweep_length b start dwell s
  | captureRead offset n => exact runCaptureRead_length offset n s
  | latchClear mask => exact (maskBytes_length _).le
  | writeLadder b start l => exact withCarrier_length (n := 0) fun c => by dsimp only; split_ifs <;> exact Nat.le_refl 0
  | writeLadderLength b start l =>
    exact withCarrier_length (n := 0) fun c => by dsimp only; repeat' (first | exact Nat.le_refl 0 | split)
  | writeCurve b start l => exact withCarrier_length (n := 0) fun c => by split <;> exact Nat.le_refl 0
  | writeFlow start l => simp only [runCommand, runWriteFlow]; split_ifs <;> exact Nat.le_refl 0
  | writeShed start l => simp only [runCommand, runWriteShed]; split <;> exact Nat.le_refl 0
  | writeClassLimit start l => simp only [runCommand, runWriteClassLimit]; split <;> exact Nat.le_refl 0
  | disable b => exact withCarrier_length (n := 0) fun c => by split <;> exact Nat.le_refl 0
  | restart b => exact withCarrier_length (n := 0) fun c => by split <;> exact Nat.le_refl 0
  | testLeave b => exact withCarrier_length (n := 0) fun c => by dsimp only; split <;> exact Nat.le_refl 0
  | clearHold b => exact withCarrier_length (n := 0) fun c => by split <;> exact Nat.le_refl 0
  | captureArm b t post => exact withCarrier_length (n := 0) fun c => by repeat' (first | exact Nat.le_refl 0 | split)
  | captureCancel => exact Nat.le_refl 0
  | resetTraffic => exact Nat.le_refl 0
  | resetDevice => exact Nat.le_refl 0

/-! ### Class Admission and the input queue -/

/-- A frame that joins a queue brings its slots into the occupancy of its class (R113). -/
theorem Queues.heldOk_join {q : Queues} (h : q.heldOk) (k : ClassId) {f : Frame} (hf : 1 ≤ slotCount f) : (q.join k f).heldOk := by
  obtain ⟨slots, cursor, counts⟩ := h
  refine ⟨fun j g hg => ?_, cursor, fun j => ?_⟩
  · by_cases same : j = k
    · subst same
      simp only [Queues.join, Quad.get_upd_same, List.mem_append, List.mem_singleton] at hg
      rcases hg with hg | rfl
      · exact slots j g hg
      · exact hf
    · simp only [Queues.join, Quad.get_upd_ne _ _ same] at hg
      exact slots j g hg
  · have inProgress : (q.join k f).inProgress j = q.inProgress j := rfl
    rw [inProgress]
    by_cases same : j = k
    · subst same
      simp only [Queues.join, Quad.get_upd_same, List.map_append, List.map_cons, List.map_nil, List.sum_append, List.sum_singleton,
        counts j]
      omega
    · simp only [Queues.join, Quad.get_upd_ne _ _ same]
      exact counts j

theorem Queues.sum_join (q : Queues) (k : ClassId) (f : Frame) : (q.join k f).occupancy.sum = q.occupancy.sum + slotCount f := by
  have := Quad.sum_set q.occupancy k (q.occupancy.get k + slotCount f)
  simp only [Queues.join, Quad.upd]
  omega

theorem State.storesOk_admitFrame {s : State} (h : s.storesOk) (k : ClassId) {f : Frame} (hf : 1 ≤ slotCount f) :
    (s.admitFrame k f).storesOk := by
  obtain ⟨window, ring, queue, response, held, sum, drawn, shed⟩ := h
  obtain ⟨a, sameShed, -, -, e | ⟨room, e⟩⟩ := s.admitFrame_cases k f
  · rw [e]; exact ⟨window, ring, queue, response, held, sum, drawn, by rw [← shed]; exact congrArg Quad.at0 sameShed⟩
  · rw [e]
    refine ⟨window, ring, queue, response, Queues.heldOk_join held k hf, ?_, drawn, by rw [← shed]; exact congrArg Quad.at0 sameShed⟩
    have total := s.queues.sum_join k f
    have free : s.queues.free = 16384 - s.queues.occupancy.sum := rfl
    show (s.queues.join k f).occupancy.sum ≤ 16384
    omega

@[simp] theorem State.enqueue_window (s : State) (sd : Side) (f : Frame) : (s.enqueue sd f).reseq.window = s.reseq.window := by
  obtain ⟨a, -, -, -, e | e⟩ := s.enqueue_cases sd f
  · rw [e]; rfl
  · rw [e]

theorem State.storesOk_enqueue {s : State} (h : s.storesOk) (sd : Side) (f : Frame) : (s.enqueue sd f).storesOk := by
  obtain ⟨window, others⟩ := h
  exact ⟨by rw [State.enqueue_window]; exact window, State.otherStoresOk_enqueue others sd f⟩

theorem slotCount_pos {f : Frame} (h : 1 ≤ f.length) : 1 ≤ slotCount f := by
  unfold slotCount; omega

theorem State.storesOk_ingress {s : State} (h : s.storesOk) (f : Frame) : (s.ingress f).storesOk := by
  have counted : ∀ x : SitePort, State.storesOk { s with site := x } := fun x => State.storesOk_of_same (s := s) rfl rfl h
  unfold State.ingress
  split_ifs with bad short long
  case neg =>
    have slots : 1 ≤ slotCount f := slotCount_pos (by simp only [Config.minFrame] at short; omega)
    unfold State.acceptIngress
    dsimp only
    split
    · exact State.storesOk_enqueue (counted _) _ _
    · unfold State.classify
      have classified : ∀ x : Classifier, State.storesOk { s with site := { s.site with accepted := bump s.site.accepted }, classifier := x } :=
        fun x => State.storesOk_of_same (s := s) rfl rfl h
      split
      · split
        · exact State.storesOk_admitFrame (classified _) _ slots
        · exact classified _
      · exact State.storesOk_admitFrame (classified _) _ slots
  all_goals exact counted _

/-! ### The effects of the commands -/

theorem State.reset_storesOk : State.reset.storesOk := by decide

theorem State.storesOk_deviceReset (s : State) : s.deviceReset.storesOk :=
  State.storesOk_of_same (s := State.reset) rfl rfl State.reset_storesOk

theorem State.storesOk_setCar {s : State} (h : s.storesOk) (c : CarrierId) (k : Carrier) : (s.setCar c k).storesOk :=
  State.storesOk_of_same (s := s) rfl rfl h

theorem State.storesOk_cutCapture {s : State} (h : s.storesOk) (c : CarrierId) : (s.cutCapture c).storesOk := by
  unfold State.cutCapture
  split <;> exact h

theorem State.storesOk_trafficReset {s : State} (h : s.storesOk) : s.trafficReset.storesOk := by
  obtain ⟨-, ring, queue, response, -, -, drawn, shed⟩ := h
  refine ⟨rfl, ring, queue, response, ⟨fun k f hf => ?_, fun cu hcu => (nomatch hcu), fun k => ?_⟩, Nat.zero_le _, drawn, shed⟩
  · simp only [State.trafficReset, Queues.trafficReset, Quad.get_all, List.not_mem_nil] at hf
  · simp [State.trafficReset, Queues.trafficReset, Queues.inProgress]

/-- Whatever a command does, it keeps the forms of the stores. -/
theorem State.Effect.storesOk {s t : State} (effect : s.Effect t) (h : s.storesOk) : t.storesOk := by
  cases effect with
  | none => exact h
  | cleared => exact h
  | ladder c l => exact State.storesOk_setCar h c _
  | curve c start l => exact State.storesOk_setCar h c _
  | classifier x => exact State.storesOk_of_same (s := s) rfl rfl h
  | shedTable t => exact State.storesOk_of_same (s := s) (by simp) (by simp [State.otherStores]) h
  | limits t => exact State.storesOk_of_same (s := s) rfl rfl h
  | param c p v r k => exact State.storesOk_setCar h c _
  | txCeiling c p => exact State.storesOk_setCar (State.storesOk_completeFillOf h c) c _
  | gapTime n => exact State.storesOk_of_same (s := s) rfl rfl h
  | lateRun n => exact State.storesOk_of_same (s := s) rfl rfl h
  | typeCode n => exact State.storesOk_of_same (s := s) rfl rfl h
  | alert a => exact State.storesOk_of_same (s := s) rfl rfl h
  | enable c => exact State.storesOk_signalContribution (State.storesOk_setCar h c _) c
  | disable c =>
    exact State.storesOk_signalContribution (State.storesOk_cutCapture (State.storesOk_setCar (State.storesOk_completeFillOf h c) c _) c) c
  | restart c | testEnter c p =>
    exact State.storesOk_signalContribution (State.storesOk_setCar (State.storesOk_completeFillOf h c) c _) c
  | testLeave c => exact State.storesOk_signalContribution (State.storesOk_setCar h c _) c
  | clearHold c => exact State.storesOk_setCar (State.storesOk_completeFillOf h c) c _
  | sweep c p dwell => exact State.storesOk_setCar h c _
  | emptied y empty =>
    obtain ⟨window, -, rest⟩ := h
    exact ⟨window, by simp [empty], rest⟩
  | trafficReset => exact State.storesOk_trafficReset (State.storesOk_completeFill h)
  | deviceReset => exact s.storesOk_deviceReset

theorem State.storesOk_returned {s : State} (h : s.storesOk) (r : Reply) : (s.returned r).storesOk := h

/-! ### A frame of commands -/

/-- The body of a response with one entry more. -/
theorem bodyLength_append (l : List ReplyEntry) (e : ReplyEntry) : bodyLength (l ++ [e]) = bodyLength l + 5 + e.data.length := by
  simp [bodyLength, entryBytes]
  omega

theorem readCommands_length {n : Nat} {b : List Byte} {l : List RawCommand} (h : readCommands n b = some l) : l.length = n := by
  induction n generalizing b l with
  | zero => cases h; rfl
  | succ n ih =>
    match b, h with
    | code :: tag :: hi :: lo :: rest, h =>
      simp only [readCommands] at h
      split at h
      · cases h
      · obtain ⟨l', read, rfl⟩ := Option.map_eq_some_iff.1 h
        rw [List.length_cons, ih read]
    | [], h | [_], h | [_, _], h | [_, _, _], h => cases h

/-- A command given through its checks leaves its entry within what the response has room for (R171, R173). -/
theorem checkAndRun_length (x : Except Result Command) (used following : Nat) (s : State) :
    (checkAndRun x used following s).1.data = [] ∨ used + 5 + (checkAndRun x used following s).1.data.length + 5 * following ≤ 1500 := by
  unfold checkAndRun
  split
  · exact .inl rfl
  · rename_i c
    split
    · rename_i fits
      have room : used + 5 + successLength c s + 5 * following ≤ 1500 := of_decide_eq_true fits
      have length := runCommand_length c s
      exact .inr (by omega)
    · exact .inl rfl

/-- A state whose execution was replaced by one within the response's limit. -/
theorem State.storesOk_withExecution {s : State} (h : s.storesOk) (x : Execution) (fits : bodyLength x.entries + 5 * x.left.length ≤ 1500) :
    State.storesOk { s with agent := { s.agent with execution := some x } } := by
  obtain ⟨window, ring, queue, -, rest⟩ := h
  exact ⟨window, ring, queue, fun y hy => by cases hy; exact fits, rest⟩

theorem State.storesOk_ranOne {s : State} (h : s.storesOk) {x : Execution} {raw : RawCommand} {rest : List RawCommand}
    (hx : s.agent.execution = some x) (hl : x.left = raw :: rest) : (s.ranOne x raw rest.length).storesOk := by
  have ran := State.storesOk_returned ((checkAndRun_effect (decodeCommand raw.code raw.args) (bodyLength x.entries) rest.length s).storesOk h)
    (checkAndRun (decodeCommand raw.code raw.args) (bodyLength x.entries) rest.length s).1
  refine State.storesOk_withExecution ran _ ?_
  obtain ⟨-, -, -, response, -⟩ := h
  have before := response x hx
  have entry := checkAndRun_length (decodeCommand raw.code raw.args) (bodyLength x.entries) rest.length s
  rw [hl, List.length_cons] at before
  simp only [bodyLength_append, hl, List.tail_cons]
  rcases entry with none | room
  · rw [none, List.length_nil]; omega
  · exact room

theorem State.storesOk_popFrame {s : State} (h : s.storesOk) (a : Agent) (hq : a.queue = s.agent.queue.tail) (hx : a.execution = none) :
    State.storesOk { s with agent := a } := by
  obtain ⟨window, ring, queue, -, rest⟩ := h
  refine ⟨window, ring, ?_, ?_, rest⟩
  · show a.queue.length ≤ 4
    rw [hq, List.length_tail]; omega
  · intro y hy
    exact absurd (show some y = none from hx ▸ hy.symm) nofun

theorem State.storesOk_beginFrameExecution {s : State} (h : s.storesOk) : s.beginFrameExecution.storesOk := by
  unfold State.beginFrameExecution
  split
  · exact h
  · split
    · exact State.storesOk_popFrame h _ rfl rfl
    · exact State.storesOk_popFrame h _ rfl rfl
    · rename_i l checked
      refine State.storesOk_withExecution h _ ?_
      have number : l.length < 256 := by
        unfold checkFrame at checked
        split_ifs at checked
        split at checked
        · rename_i read
          cases checked
          rw [readCommands_length read]
          exact (byteAt _ 16).isLt
        · cases checked
      simp only [bodyLength, List.flatMap_nil, List.length_nil]
      omega

theorem Agent.response_length (a : Agent) (f : Frame) (l : List ReplyEntry) : 64 ≤ (a.response f l).length := by
  simp only [Agent.response, List.length_append, padTo_length, Config.minFrame, fcsBytes, List.length_cons, List.length_nil]
  omega

theorem State.storesOk_finishFrame {s : State} (h : s.storesOk) : s.finishFrame.storesOk := by
  unfold State.finishFrame
  split
  · rename_i l q _ _ _
    have popped : State.storesOk { s.popFrame with agent := { s.popFrame.agent with responsesSent := bump s.popFrame.agent.responsesSent } } :=
      State.storesOk_popFrame h _ rfl rfl
    dsimp only
    unfold State.sendResponse
    split
    · exact State.storesOk_of_same rfl rfl popped
    · exact State.storesOk_admitFrame popped 0 (slotCount_pos ((by decide : 1 ≤ 64).trans (s.agent.response_length q.frame l)))
  · exact h

theorem State.storesOk_executeFrame {s : State} (h : s.storesOk) (n : Nat) : (s.executeFrame n).storesOk :=
  State.executeFrame_keeps (P := State.storesOk) (fun _ => State.storesOk_beginFrameExecution) (fun _ => State.storesOk_finishFrame)
    (fun t _ => t.storesOk_deviceReset) (fun _ _ _ _ hx hl ht => State.storesOk_ranOne ht hx hl) n h

/-! ### Every event -/

theorem State.storesOk_fillNext {s : State} (h : s.storesOk) : s.fillNext.storesOk :=
  State.fillNext_keeps (P := State.storesOk) (fun _ => State.storesOk_completeFill) (fun _ => State.storesOk_grantFill) h

theorem State.storesOk_beforeStart {s : State} (h : s.storesOk) (c : CarrierId) : (s.beforeStart c).storesOk :=
  State.beforeStart_keeps (P := State.storesOk) (fun _ => State.storesOk_completeFill) (fun _ => State.storesOk_grantFill) c h

theorem State.Event.storesOk {s t : State} (event : s.Event t) (h : s.storesOk) : t.storesOk := by
  cases event with
  | idle => exact h
  | start c m =>
    exact State.storesOk_of_same (s := s.beforeStart c) rfl rfl (State.storesOk_beforeStart h c)
  | fill => exact State.storesOk_fill h
  | fillNext => exact State.storesOk_fillNext h
  | arrival c f n => exact State.storesOk_inbound (State.storesOk_completeFillOf h c) c f n
  | item c i => exact State.storesOk_takeItem h c i
  | tick => exact State.storesOk_tick h
  | ingress f => exact State.storesOk_ingress h f
  | frame n => exact State.storesOk_executeFrame h n
  | command x => exact State.storesOk_returned ((checkAndRun_effect (.ok x) 3 0 s).storesOk h) _
  | reset p => exact State.storesOk_deviceReset _
  | release p => exact State.storesOk_of_same (s := s) rfl rfl h

/-- Settles O56: every event keeps the forms of the stores. The draws number their segments and return the slots that they take (R113,
R126), the window store is put into and shifted in order (R133), and an entry joins the response only where its room was measured (R173). -/
theorem stepKeepsStoreForms : Obligations.StepKeepsStoreForms := by
  intro s t h stepped
  exact step_keeps (P := State.storesOk) (fun _ _ hs => hs) (fun _ _ event => event.storesOk) stepped h

end Sys2Proof.Machine
end


section
/-! PROOFS. The lock, the fill lead and the switches of the carriers (R1, R4, R58, R91, R92, R121): what they are read from, and the fills. -/

namespace Sys2Proof.Machine

/-! ### One carrier -/

/-- The lock, the fill lead and the switches of a carrier whose fill is due as given. -/
abbrev Carrier.laneOk (k : Carrier) (due : Option FrameNo) : Prop := k.lockOk ∧ k.leadOk due ∧ k.switchesOk

/-- What lock, fill lead and switches are read from, with the standing request and the ladder that a fill reads. -/
def Carrier.laneView (k : Carrier) :=
  (k.control.state, k.control.txCeiling, k.ladder, k.lane.outCounter, k.lane.records, k.lane.nf, k.lane.modemTable, k.sched.outbound,
    k.sched.scheduled, k.sched.forced, k.dist.request)

theorem Carrier.laneOk_of_same {k k' : Carrier} {due : Option FrameNo} (h : k'.laneView = k.laneView) (hk : k.laneOk due) :
    k'.laneOk due := by
  simp only [Carrier.laneView, Prod.mk.injEq] at h
  simpa only [Carrier.laneOk, Carrier.lockOk, Carrier.leadOk, Carrier.switchesOk, Carrier.txCeil, h] using hk

/-- A carrier whose fill is due is not OFF, and the fill is that of the frame after the next. -/
theorem Carrier.lead_of_due {k : Carrier} {n : FrameNo} (h : k.leadOk (some n)) :
    k.control.state ≠ .off ∧ n = k.lane.outCounter + 2 ∧ k.lane.nf = some n ∧
      k.lane.records.map FillRecord.fn = [k.lane.outCounter + 1] := by
  unfold Carrier.leadOk at h
  dsimp only at h
  split at h
  · obtain ⟨-, -, due, -⟩ := h; cases due
  · rename_i on
    obtain ⟨due, nf, records⟩ := h
    cases due
    exact ⟨on, rfl, nf, records⟩

/-- A carrier that is not OFF and whose fill is not due holds the records of the next two frames. -/
theorem Carrier.lead_of_none {k : Carrier} (h : k.leadOk none) (on : k.control.state ≠ .off) :
    k.lane.nf = some (k.lane.outCounter + 3) ∧
      k.lane.records.map FillRecord.fn = [k.lane.outCounter + 1, k.lane.outCounter + 2] := by
  unfold Carrier.leadOk at h
  rw [if_neg on] at h
  exact h

theorem Carrier.leadOk_due {k : Carrier} (on : k.control.state ≠ .off) (nf : k.lane.nf = some (k.lane.outCounter + 2))
    (records : k.lane.records.map FillRecord.fn = [k.lane.outCounter + 1]) : k.leadOk (some (k.lane.outCounter + 2)) := by
  unfold Carrier.leadOk
  rw [if_neg on]
  exact ⟨rfl, nf, records⟩

theorem Carrier.leadOk_none {k : Carrier} (on : k.control.state ≠ .off) (nf : k.lane.nf = some (k.lane.outCounter + 3))
    (records : k.lane.records.map FillRecord.fn = [k.lane.outCounter + 1, k.lane.outCounter + 2]) : k.leadOk none := by
  unfold Carrier.leadOk
  rw [if_neg on]
  exact ⟨nf, records⟩

/-- The fill lead of a carrier in a state other than OFF is not read from the state. -/
theorem Carrier.leadOk_of_on {k k' : Carrier} {due : Option FrameNo} (on : k.control.state ≠ .off) (on' : k'.control.state ≠ .off)
    (same : k'.lane = k.lane) (h : k.leadOk due) : k'.leadOk due := by
  unfold Carrier.leadOk at h ⊢
  rw [if_neg on] at h
  rw [if_neg on', same]
  exact h

/-! ### A fill at its carrier -/

/-- The profile that a fill uses, and the outbound profile after it, lie within the effective tx ceiling (R92). -/
theorem Carrier.switchesOk_fillProfile {k : Carrier} (h : k.switchesOk) (n : FrameNo) :
    ({ k with sched := (k.sched.fillProfile n).2 } : Carrier).switchesOk := by
  intro on
  obtain ⟨length, scheduled, forced, outbound⟩ := h on
  refine ⟨length, ?_⟩
  have ceil : ({ k with sched := (k.sched.fillProfile n).2 } : Carrier).txCeil = k.txCeil := rfl
  rw [ceil]
  simp only [Scheduler.fillProfile]
  rcases hf : k.sched.forced with _ | p
  · rcases hs : k.sched.scheduled with _ | w
    · simp [hf, hs, outbound hf]
    · have := scheduled w hs
      by_cases at' : w.sf = n
      · simp [at', this]
      · simp [at', hs, hf, this, outbound hf]
  · have := forced p hf
    rcases hs : k.sched.scheduled with _ | w
    · simp [this]
    · have := scheduled w hs
      by_cases at' : w.sf = n
      · simp [at', this]
      · simp_all only [if_false, Option.mem_def, reduceCtorEq, IsEmpty.forall_iff, implies_true, true_and, and_true]

theorem Carrier.switchesOk_force {k : Carrier} (h : k.switchesOk) {p : Nat} (fits : p ≤ k.txCeil) :
    ({ k with sched := k.sched.force p } : Carrier).switchesOk := by
  intro on
  obtain ⟨length, -⟩ := h on
  exact ⟨length, fun w hw => (nomatch hw), fun q hq => by cases hq; exact fits, fun none => nomatch none⟩

/-- A step up of a sweep stays within the effective tx ceiling (R157). -/
theorem Carrier.switchesOk_sweepFill {k : Carrier} (h : k.switchesOk) : k.sweepFill.switchesOk := by
  unfold Carrier.sweepFill
  split
  · split
    · split
      · exact Carrier.switchesOk_force h (by omega)
      · exact h
    · exact h
  · exact h

theorem Carrier.switchesOk_chooseProfile {k : Carrier} (h : k.switchesOk) (n : FrameNo) : (k.chooseProfile n).switchesOk :=
  Carrier.switchesOk_sweepFill (Carrier.switchesOk_fillProfile h n)

theorem Carrier.laneOk_chooseProfile {k : Carrier} {due : Option FrameNo} (h : k.laneOk due) (n : FrameNo) :
    (k.chooseProfile n).dropRequest.laneOk due := by
  obtain ⟨lock, lead, switches⟩ := h
  refine ⟨?_, ?_, Carrier.switchesOk_chooseProfile switches n⟩
  · simpa only [Carrier.lockOk, Carrier.dropRequest_ladder, Carrier.dropRequest_control, Carrier.chooseProfile_ladder,
      Carrier.chooseProfile_control] using lock
  · simpa only [Carrier.leadOk, Carrier.dropRequest_lane, Carrier.dropRequest_control, Carrier.chooseProfile_lane,
      Carrier.chooseProfile_control] using lead

/-- The record of the frame that was due moves Nf on, and no fill is due (R4). -/
theorem Carrier.laneOk_takeRecord {k : Carrier} {n : FrameNo} (h : k.laneOk (some n)) (kind : FillKind) (p : Nat) (w : Filling) :
    (k.takeRecord kind n p w).laneOk none := by
  obtain ⟨lock, lead, switches⟩ := h
  obtain ⟨on, due, -, records⟩ := Carrier.lead_of_due lead
  refine ⟨lock, Carrier.leadOk_none on ?_ ?_, switches⟩
  · simp only [Carrier.takeRecord, due]
    congr 1
    rw [BitVec.add_assoc]
    rfl
  · simp only [Carrier.takeRecord, List.map_append, records, List.map_cons, List.map_nil, Carrier.fillRecord, due]
    rfl

/-! ### The carriers of a state -/

/-- A fill that is being carried out, begun: as `fillingOk`, but for the slot left. -/
abbrev State.openOk (s : State) : Prop :=
  ∀ w ∈ s.filling, (s.car w.carrier).control.state.carries = true ∧ (s.car w.carrier).dist.request = none

/-- The lanes once a fill is begun, before its first draw. -/
abbrev State.lanesBegun (s : State) : Prop := (∀ c : CarrierId, (s.car c).laneOk (s.dueFrame c)) ∧ s.openOk

theorem State.lanesOk.begun {s : State} (h : s.lanesOk) : s.lanesBegun := by
  obtain ⟨lanes, filling⟩ := h
  refine ⟨lanes, fun w hw => ?_⟩
  obtain ⟨carries, request, -⟩ := filling w hw
  exact ⟨carries, request⟩

/-- No fill of the carrier is being carried out. -/
abbrev State.idleAt (s : State) (c : CarrierId) : Prop := ∀ w ∈ s.filling, w.carrier ≠ c

theorem State.dueFrame_idle {s : State} {c : CarrierId} (h : s.idleAt c) : s.dueFrame c = (s.car c).dist.request := by
  unfold State.dueFrame
  split
  · rename_i w hw
    rw [if_neg (h w hw)]
  · rfl

theorem State.dueFrame_open {s : State} {w : OpenFill} (h : s.filling = some w) : s.dueFrame w.carrier = some w.fn := by
  simp only [State.dueFrame, h, if_true]

theorem State.idleAt_of_none {s : State} (h : s.filling = none) (c : CarrierId) : s.idleAt c := fun w hw => by rw [h] at hw; cases hw

/-- A carrier that carries no data is not the one whose fill is being carried out. -/
theorem State.idleAt_of_state {s : State} (h : s.openOk) {c : CarrierId} (not : (s.car c).control.state.carries = false) : s.idleAt c := by
  rintro w hw rfl
  obtain ⟨carries, -⟩ := h w hw
  rw [carries] at not
  cases not

theorem State.laneOk_idle {s : State} (h : s.lanesBegun) {c : CarrierId} (idle : s.idleAt c) :
    (s.car c).laneOk (s.car c).dist.request := by
  rw [← State.dueFrame_idle idle]
  exact h.1 c

/-- Where the carriers read the same and the fill stands, the lanes are in order as before. -/
theorem State.lanesOk_of_same {s t : State} (hf : t.filling = s.filling) (hk : ∀ c, (t.car c).laneView = (s.car c).laneView)
    (h : s.lanesOk) : t.lanesOk := by
  obtain ⟨lanes, filling⟩ := h
  have view : ∀ c, (t.car c).control.state = (s.car c).control.state ∧ (t.car c).ladder = (s.car c).ladder ∧
      (t.car c).dist.request = (s.car c).dist.request := fun c => by
    have := hk c
    simp only [Carrier.laneView, Prod.mk.injEq] at this
    tauto
  refine ⟨fun c => ?_, fun w hw => ?_⟩
  · have due : t.dueFrame c = s.dueFrame c := by
      simp only [State.dueFrame, hf, (view c).2.2]
    rw [due]
    exact Carrier.laneOk_of_same (hk c) (lanes c)
  · rw [hf] at hw
    obtain ⟨state, ladder, request⟩ := view w.carrier
    rw [State.fillCapacity, state, ladder, request]
    exact filling w hw

theorem State.lanesOk_of_carriers {s t : State} (hf : t.filling = s.filling) (hc : t.carriers = s.carriers) (h : s.lanesOk) : t.lanesOk :=
  State.lanesOk_of_same hf (fun c => by rw [State.car_congr hc c]) h

/-- A carrier that is replaced by one in order, while no fill of it is being carried out. -/
theorem State.lanesOk_setCar {s : State} (h : s.lanesOk) {c : CarrierId} (idle : s.idleAt c) {k : Carrier}
    (hk : k.laneOk k.dist.request) : (s.setCar c k).lanesOk := by
  obtain ⟨lanes, filling⟩ := h
  refine ⟨fun d => ?_, fun w hw => ?_⟩
  · by_cases same : d = c
    · subst same
      rw [State.dueFrame_idle (s := s.setCar d k) idle, State.car_setCar_same]
      exact hk
    · have car : (s.setCar c k).car d = s.car d := by rw [State.car_setCar, if_neg same]
      have due : (s.setCar c k).dueFrame d = s.dueFrame d := by
        simp only [State.dueFrame, car]
        rfl
      rw [car, due]
      exact lanes d
  · have car : (s.setCar c k).car w.carrier = s.car w.carrier := by rw [State.car_setCar, if_neg (idle w hw)]
    rw [State.fillCapacity, car]
    exact filling w hw

/-- A carrier that is replaced by one that reads the same. -/
theorem State.lanesOk_setCar_same {s : State} (h : s.lanesOk) {c : CarrierId} {k : Carrier} (hk : k.laneView = (s.car c).laneView) :
    (s.setCar c k).lanesOk := by
  refine State.lanesOk_of_same (s := s) rfl (fun d => ?_) h
  rw [State.car_setCar]
  split
  · rename_i same; subst same; exact hk
  · rfl

/-! ### The fills -/

@[simp] theorem Carrier.takeRecord_request (k : Carrier) (kind : FillKind) (n : FrameNo) (p : Nat) (w : Filling) :
    (k.takeRecord kind n p w).dist.request = k.dist.request := Distributor.counted_request _ _ _ _

/-- Data segments that are counted at a carrier leave the lanes. -/
theorem State.lanesBegun_place {s : State} (h : s.lanesBegun) (q : Queues) (c : CarrierId) (n : Nat) :
    ({ s with queues := q }.updCar c (fun k => k.place n)).lanesBegun := by
  obtain ⟨lanes, filling⟩ := h
  have car : ∀ d, (({ s with queues := q }.updCar c (fun k => k.place n)).car d).laneView = (s.car d).laneView := fun d => by
    rw [State.car_updCar]
    split
    · rename_i same; subst same; rfl
    · rfl
  have parts : ∀ d, (({ s with queues := q }.updCar c (fun k => k.place n)).car d).control.state = (s.car d).control.state ∧
      (({ s with queues := q }.updCar c (fun k => k.place n)).car d).dist.request = (s.car d).dist.request := fun d => by
    have := car d
    simp only [Carrier.laneView, Prod.mk.injEq] at this
    tauto
  refine ⟨fun d => ?_, fun w hw => ?_⟩
  · have due : ({ s with queues := q }.updCar c (fun k => k.place n)).dueFrame d = s.dueFrame d := by
      simp only [State.dueFrame, (parts d).2]
      rfl
    rw [due]
    exact Carrier.laneOk_of_same (car d) (lanes d)
  · rw [(parts w.carrier).1, (parts w.carrier).2]
    exact filling w hw

/-- A fill that ends hands its record over, and its carrier's fill is no longer due. -/
theorem State.lanesOk_endFill {s : State} (h : s.lanesBegun) {w : OpenFill} (hf : s.filling = some w) (drawn : List Segment) :
    (s.endFill { w with drawn := drawn }).lanesOk := by
  obtain ⟨lanes, filling⟩ := h
  refine ⟨fun d => ?_, fun v hv => by cases hv⟩
  rw [State.dueFrame_idle (State.idleAt_of_none (State.endFill_filling _ _) d), State.car_endFill]
  split
  · rename_i same
    obtain rfl : d = w.carrier := same
    have before : (s.car w.carrier).laneOk (some w.fn) := by rw [← State.dueFrame_open hf]; exact lanes w.carrier
    rw [Carrier.takeRecord_request, (filling w hf).2]
    exact Carrier.laneOk_takeRecord before _ _ _
  · rename_i other
    rw [← State.dueFrame_idle (s := s) (c := d) (fun v hv => by rw [hf] at hv; cases hv; exact Ne.symm other)]
    exact lanes d

/-- A fill that waits for its next draw has a slot left. -/
theorem State.lanesOk_waits {s : State} (h : s.lanesBegun) {w : OpenFill} (hf : s.filling = some w) {drawn : List Segment}
    (room : drawn.length < s.fillCapacity w) : State.lanesOk { s with filling := some { w with drawn := drawn } } := by
  obtain ⟨lanes, filling⟩ := h
  refine ⟨fun d => ?_, fun v hv => ?_⟩
  · have due : State.dueFrame { s with filling := some { w with drawn := drawn } } d = s.dueFrame d := by
      simp only [State.dueFrame, hf]
      rfl
    rw [due]
    exact lanes d
  · cases hv
    obtain ⟨carries, request⟩ := filling w hf
    exact ⟨carries, request, room⟩

/-- The draws of a fill leave it with a slot to draw, or end it. -/
theorem State.lanesOk_drawOn {s : State} (h : s.lanesBegun) (n : Nat) : (s.drawOn n).lanesOk := by
  rcases hf : s.filling with _ | w
  · rw [State.drawOn_none hf]
    exact ⟨h.1, fun w hw => by rw [hf] at hw; cases hw⟩
  · rw [State.drawOn_some hf]
    dsimp only
    generalize s.queues.drawMany (min n (s.fillCapacity w - w.drawn.length)) = d
    have placed := State.lanesBegun_place h d.2 w.carrier d.1.length
    split
    · rename_i room
      refine State.lanesOk_waits placed hf (lt_of_lt_of_eq room.2 ?_)
      rw [State.fillCapacity, State.fillCapacity, State.car_updCar_same]
      rfl
    · exact State.lanesOk_endFill placed hf _

theorem State.lanesOk_completeFill {s : State} (h : s.lanesBegun) : s.completeFill.lanesOk := by
  rcases hf : s.filling with _ | w
  · rw [State.completeFill_none hf]
    exact ⟨h.1, fun w hw => by rw [hf] at hw; cases hw⟩
  · simp only [State.completeFill, hf]
    exact State.lanesOk_drawOn h _

theorem State.lanesOk_goOn {s : State} (h : s.lanesBegun) : s.goOn.lanesOk := by
  unfold State.goOn
  split
  · rename_i none
    exact ⟨h.1, fun w hw => by rw [none] at hw; cases hw⟩
  · exact State.lanesOk_completeFill h
  · rename_i rest _ _
    exact State.lanesOk_drawOn (s := { s with drawPlan := rest }) h _

theorem State.lanesOk_completeFillOf {s : State} (h : s.lanesOk) (c : CarrierId) : (s.completeFillOf c).lanesOk :=
  State.completeFillOf_keeps (P := State.lanesOk) (fun _ hs => State.lanesOk_completeFill hs.begun) c h

/-- After that no fill of the carrier is being carried out. -/
theorem State.idleAt_completeFillOf (s : State) (c : CarrierId) : (s.completeFillOf c).idleAt c := by
  rcases hf : s.filling with _ | w
  · rw [State.completeFillOf_of_ne (fun v hv => by rw [hf] at hv; cases hv)]
    exact State.idleAt_of_none hf c
  · by_cases same : w.carrier = c
    · rw [State.completeFillOf_of_eq hf same]
      exact State.idleAt_of_none (State.completeFill_filling s) c
    · rw [State.completeFillOf_of_ne (fun v hv => by rw [hf] at hv; cases hv; exact same)]
      intro v hv
      rw [hf] at hv
      cases hv
      exact same

/-- A granted fill is begun, or carried out whole where it draws nothing. -/
theorem State.lanesBegun_openFill {s : State} (h : s.lanesOk) (none : s.filling = none) {c : CarrierId} {n : FrameNo}
    (request : (s.car c).dist.request = some n) : (s.openFill c n).lanesBegun := by
  have idle := State.idleAt_of_none none
  have before : (s.car c).laneOk (some n) := by rw [← request]; exact State.laneOk_idle h.begun (idle c)
  obtain ⟨on, -⟩ := Carrier.lead_of_due before.2.1
  have chosen := Carrier.laneOk_chooseProfile before n
  have carriers : (s.beginFill c n).carriers = (s.setCar c ((s.car c).chooseProfile n).dropRequest).carriers := by simp [State.beginFill]
  have filling : (s.beginFill c n).filling = s.filling := by simp [State.beginFill]
  have handed : ∀ kind p w, ((s.beginFill c n).handRecord kind c n p w).lanesOk := fun kind p w => by
    refine State.lanesOk_of_carriers (s := s.setCar c (((s.car c).chooseProfile n).dropRequest.takeRecord kind n p w)) filling ?_
      (State.lanesOk_setCar h (idle c) ?_)
    · simp only [State.handRecord, State.updCar, State.setCar_carriers, carriers, State.car_congr carriers, State.car_setCar_same,
        Quad.set_set]
    · rw [Carrier.takeRecord_request, Carrier.dropRequest_request]
      exact Carrier.laneOk_takeRecord chosen kind p w
  unfold State.openFill
  dsimp only
  rw [if_neg on]
  split
  · rename_i data
    have car : ∀ d, (s.beginFill c n).car d = if d = c then ((s.car c).chooseProfile n).dropRequest else s.car d := fun d => by
      rw [← State.car_setCar]
      exact State.car_congr carriers d
    refine ⟨fun d => ?_, fun w hw => ?_⟩
    · show ((s.beginFill c n).car d).laneOk (if c = d then some n else ((s.beginFill c n).car d).dist.request)
      rw [car]
      by_cases same : d = c
      · rw [if_pos same, if_pos same.symm]
        exact chosen
      · rw [if_neg same, if_neg (Ne.symm same)]
        exact State.laneOk_idle h.begun (idle d)
    · cases hw
      show ((s.beginFill c n).car c).control.state.carries = true ∧ ((s.beginFill c n).car c).dist.request = .none
      rw [car, if_pos rfl]
      refine ⟨?_, rfl⟩
      rw [Carrier.dropRequest_control, Carrier.chooseProfile_control]
      revert data
      cases (s.car c).control.state <;> simp [fillKind, CarrierState.carries]
  · exact (handed _ _ _).begun
  · exact (handed _ _ _).begun

theorem State.lanesBegun_grantFill {s : State} (h : s.lanesOk) (none : s.filling = none) : s.grantFill.lanesBegun := by
  unfold State.grantFill
  split
  · rename_i granted
    exact State.lanesBegun_openFill h none (State.grant_stands granted).1
  · exact h.begun

theorem State.lanesOk_fill {s : State} (h : s.lanesOk) : s.fill.lanesOk := by
  unfold State.fill
  split
  · exact State.lanesOk_goOn h.begun
  · rename_i none
    exact State.lanesOk_goOn (State.lanesBegun_grantFill h (by simpa using none))

theorem State.lanesOk_fillNext {s : State} (h : s.lanesOk) : s.fillNext.lanesOk :=
  State.lanesOk_completeFill (State.lanesBegun_grantFill (State.lanesOk_completeFill h.begun) (State.completeFill_filling s))

theorem State.lanesOk_beforeStart {s : State} (h : s.lanesOk) (c : CarrierId) : (s.beforeStart c).lanesOk :=
  State.serveBefore_keeps (P := State.lanesOk) (fun _ => State.lanesOk_fillNext) c 4 (State.lanesOk_completeFillOf h c)

/-! ### The fills before an outbound start serve its carrier -/

theorem State.standing_le (s : State) : s.standing ≤ 4 := by
  unfold State.standing
  split_ifs <;> omega

theorem State.serveBefore_served (c : CarrierId) (n : Nat) {s : State} (h : s.standing ≤ n) :
    ((s.serveBefore c n).car c).dist.request = none := by
  induction n generalizing s with
  | zero =>
    by_contra stands
    have := State.standing_fillNext (s := s) (c := c) stands
    omega
  | succ n ih =>
    simp only [State.serveBefore]
    split
    · rename_i stands
      refine ih ?_
      have := State.standing_fillNext (s := s) (c := c) (fun none => by rw [none] at stands; cases stands)
      omega
    · rename_i none
      simpa using none

theorem State.idleAt_fillNext (s : State) (c : CarrierId) : s.fillNext.idleAt c :=
  State.idleAt_of_none (State.completeFill_filling _) c

theorem State.idleAt_serveBefore {c : CarrierId} (n : Nat) {s : State} (h : s.idleAt c) : (s.serveBefore c n).idleAt c :=
  State.serveBefore_keeps (P := fun s => s.idleAt c) (fun s _ => s.idleAt_fillNext c) c n h

/-- Before an outbound start no fill of its carrier is due. -/
theorem State.beforeStart_served (s : State) (c : CarrierId) :
    ((s.beforeStart c).car c).dist.request = none ∧ (s.beforeStart c).idleAt c :=
  ⟨State.serveBefore_served c 4 (State.standing_le _), State.idleAt_serveBefore 4 (State.idleAt_completeFillOf s c)⟩

/-- An outbound start sends the record of its frame and asks for the fill of the frame after the next (R3). -/
theorem Carrier.laneOk_started {k : Carrier} (h : k.laneOk none) (on : k.control.state ≠ .off) :
    (k.started (k.lane.outCounter + 1)).laneOk (k.started (k.lane.outCounter + 1)).dist.request := by
  obtain ⟨lock, lead, switches⟩ := h
  obtain ⟨nf, records⟩ := Carrier.lead_of_none lead on
  have next : k.lane.outCounter + 1 + 2 = k.lane.outCounter + 3 := by rw [BitVec.add_assoc]; rfl
  refine ⟨lock, Carrier.leadOk_due (k := k.started (k.lane.outCounter + 1)) on ?_ ?_, switches⟩
  · simp only [Carrier.started, nf, next]
  · obtain ⟨a, b, held⟩ : ∃ a b, k.lane.records = [a, b] :=
      List.length_eq_two.1 (by rw [← List.length_map (f := FillRecord.fn), records]; rfl)
    rw [held] at records
    simp only [List.map_cons, List.map_nil, List.cons.injEq, and_true] at records
    obtain ⟨first, second⟩ := records
    have other : k.lane.outCounter + 2 ≠ k.lane.outCounter + 1 := by
      intro same
      exact absurd ((BitVec.add_right_inj _).1 same) (by decide)
    have after : k.lane.outCounter + 1 + 1 = k.lane.outCounter + 2 := by rw [BitVec.add_assoc]; rfl
    simp only [Carrier.started, held, List.filter_cons, first, second, List.filter_nil, ne_eq, not_true_eq_false, decide_false, other,
      not_false_eq_true, decide_true, if_true, Bool.false_eq_true, if_false, List.map_cons, List.map_nil, after]

end Sys2Proof.Machine
end


section
/-! PROOFS. The lock, the fill lead and the switches, concluded: an inbound arrival, the commands, every event, O57 and O60. -/

namespace Sys2Proof.Machine

/-! ### Switches that a change of the Scheduler leaves in order -/

/-- Outside RUN no switch is scheduled. -/
theorem Carrier.scheduled_none {k : Carrier} (h : k.switchesOk) (on : k.control.state ≠ .off) (not : k.control.state ≠ .run) :
    k.sched.scheduled = none := by
  obtain ⟨-, scheduled, -⟩ := h on
  rcases hs : k.sched.scheduled with _ | w
  · rfl
  · exact absurd (scheduled w hs).2 not

/-- A change of the carrier's state, with the ladder and the switches as they stand, no switch being scheduled outside RUN. -/
theorem Carrier.laneOk_state {k k' : Carrier} {due : Option FrameNo} (h : k.laneOk due) (on : k.control.state ≠ .off)
    (on' : k'.control.state ≠ .off) (ceil : k'.control.txCeiling = k.control.txCeiling) (ladder : k'.ladder = k.ladder)
    (lane : k'.lane = k.lane) (sched : k'.sched = k.sched) (run : k'.control.state = .run ∨ k.sched.scheduled = none) :
    k'.laneOk due := by
  obtain ⟨lock, lead, switches⟩ := h
  refine ⟨?_, Carrier.leadOk_of_on on on' lane lead, fun _ => ?_⟩
  · rw [Carrier.lockOk, ladder, lock, decide_eq_true on, decide_eq_true on']
  · obtain ⟨length, scheduled, rest⟩ := switches on
    have txCeil : k'.txCeil = k.txCeil := by rw [Carrier.txCeil, ceil, ladder]; rfl
    rw [ladder, sched, txCeil]
    refine ⟨length, fun w hw => ⟨(scheduled w hw).1, ?_⟩, rest⟩
    rcases run with run | none
    · exact run
    · rw [none] at hw; cases hw

/-- A forced switch within the effective tx ceiling, with a change of the carrier's state or none. -/
theorem Carrier.laneOk_forced {k k' : Carrier} {due : Option FrameNo} (h : k.laneOk due) (on : k.control.state ≠ .off)
    (on' : k'.control.state ≠ .off) (ceil : k'.control.txCeiling = k.control.txCeiling) (ladder : k'.ladder = k.ladder)
    (lane : k'.lane = k.lane) {p : Nat} (sched : k'.sched = k.sched.force p) (fits : p ≤ k.txCeil) : k'.laneOk due := by
  obtain ⟨lock, lead, switches⟩ := h
  refine ⟨?_, Carrier.leadOk_of_on on on' lane lead, fun _ => ?_⟩
  · rw [Carrier.lockOk, ladder, lock, decide_eq_true on, decide_eq_true on']
  · obtain ⟨length, -⟩ := switches on
    have txCeil : k'.txCeil = k.txCeil := by rw [Carrier.txCeil, ceil, ladder]; rfl
    rw [ladder, sched, txCeil]
    exact ⟨length, fun w hw => (nomatch hw), fun q hq => by cases hq; exact fits, fun none => nomatch none⟩

/-- The start clearing leaves no switch (R27). -/
theorem Carrier.laneOk_startClearing {k : Carrier} {due : Option FrameNo} (h : k.laneOk due) (on : k.control.state ≠ .off) :
    k.startClearing.laneOk due := by
  obtain ⟨lock, lead, switches⟩ := h
  refine ⟨?_, Carrier.leadOk_of_on (k' := k.startClearing) on nofun rfl lead, fun _ => ?_⟩
  · exact (show k.ladder.locked = decide (k.control.state ≠ .off) from lock).trans (decide_eq_true on)
  · exact ⟨(switches on).1, fun w hw => (nomatch hw), fun q hq => (nomatch hq), fun _ => Nat.zero_le _⟩

/-- An enabled carrier holds the records of frames 0 and 1 (R1, R26). -/
theorem Carrier.laneOk_enabled {k : Carrier} (h : k.laneOk k.dist.request) (off : k.control.state = .off) (length : 1 ≤ k.ladder.length) :
    k.enabled.laneOk k.enabled.dist.request := by
  obtain ⟨-, lead, -⟩ := h
  have request : k.dist.request = none := by
    unfold Carrier.leadOk at lead
    rw [if_pos off] at lead
    obtain ⟨-, -, due, -⟩ := lead
    exact due
  refine ⟨rfl, ?_, fun _ => ⟨length, fun w hw => (nomatch hw), fun q hq => (nomatch hq), fun _ => Nat.zero_le _⟩⟩
  show k.enabled.leadOk k.dist.request
  rw [request]
  exact Carrier.leadOk_none (k := k.enabled) nofun (by simp [Carrier.enabled]) (by simp [Carrier.enabled, Carrier.startClearing, Carrier.enableRecord])

theorem Carrier.laneOk_disabled (k : Carrier) : k.disabled.laneOk k.disabled.dist.request :=
  ⟨rfl, ⟨rfl, rfl, rfl, rfl⟩, fun on => absurd rfl on⟩

/-! ### A lowered tx ceiling -/

/-- The forced and the scheduled switch, and the outbound profile that no forced switch replaces, lie within a ceiling. -/
abbrev Scheduler.within (d : Scheduler) (c : Nat) : Prop :=
  (∀ w ∈ d.scheduled, w.granted ≤ c) ∧ (∀ p ∈ d.forced, p ≤ c) ∧ (d.forced = none → d.outbound ≤ c)

theorem Scheduler.lowerScheduled_within {d : Scheduler} {c : Nat} (forced : ∀ p ∈ d.forced, p ≤ c)
    (outbound : d.forced = none → d.outbound ≤ c) : (d.lowerScheduled c).within c := by
  unfold Scheduler.lowerScheduled
  split
  · rename_i w hw
    split
    · refine ⟨fun v hv => ?_, forced, outbound⟩
      dsimp only at hv
      split at hv
      · cases hv
      · cases hv; exact Nat.le_refl _
    · rename_i low
      refine ⟨fun v hv => ?_, forced, outbound⟩
      rw [hw] at hv
      cases hv
      exact Nat.le_of_not_lt low
  · rename_i unscheduled
    refine ⟨fun v hv => ?_, forced, outbound⟩
    rw [unscheduled] at hv
    cases hv

/-- What the Scheduler makes of a lowered effective tx ceiling lies within it (R94). -/
theorem Scheduler.lowerCeiling_within (d : Scheduler) (c : Nat) : (d.lowerCeiling c).within c := by
  refine Scheduler.lowerScheduled_within ?_ ?_
  · intro p hp
    split at hp
    · split at hp
      · cases hp; exact Nat.le_refl _
      · rename_i q hq low
        rw [hq] at hp
        cases hp
        exact Nat.le_of_not_lt low
    · rename_i unforced
      split at hp
      · cases hp; exact Nat.le_refl _
      · rw [unforced] at hp; cases hp
  · intro unforced
    split at unforced
    · rename_i q hq
      split at unforced
      · cases unforced
      · rw [hq] at unforced; cases unforced
    · rename_i none
      split at unforced
      · cases unforced
      · rename_i low
        rw [if_neg low]
        exact Nat.le_of_not_lt low

/-- A lowered ceiling schedules no switch. -/
theorem Scheduler.lowerCeiling_unscheduled {d : Scheduler} (h : d.scheduled = none) (c : Nat) : (d.lowerCeiling c).scheduled = none := by
  have lowered : ∀ d : Scheduler, d.scheduled = none → (d.lowerScheduled c).scheduled = none := fun d hd => by
    simp only [Scheduler.lowerScheduled, hd]
  refine lowered _ ?_
  split
  · split <;> exact h
  · split
    · rfl
    · exact h

theorem Carrier.laneOk_changeTxCeiling {k : Carrier} {due : Option FrameNo} (h : k.laneOk due) (p : Nat) :
    (changeTxCeiling k p).laneOk due ∧ (changeTxCeiling k p).dist.request = k.dist.request := by
  obtain ⟨lock, lead, switches⟩ := h
  unfold changeTxCeiling
  dsimp only
  split
  · rename_i lowered
    refine ⟨⟨lock, lead, fun on => ?_⟩, rfl⟩
    obtain ⟨length, scheduled, -⟩ := switches on
    obtain ⟨below, forced, outbound⟩ := k.sched.lowerCeiling_within (k.onControl (fun x => { x with txCeiling := p })).txCeil
    refine ⟨length, fun w hw => ⟨below w hw, ?_⟩, forced, outbound⟩
    by_contra not
    have unscheduled := Scheduler.lowerCeiling_unscheduled (Carrier.scheduled_none switches on not)
      (k.onControl (fun x => { x with txCeiling := p })).txCeil
    have held : w ∈ (k.sched.lowerCeiling (k.onControl (fun x => { x with txCeiling := p })).txCeil).scheduled := hw
    rw [unscheduled] at held
    cases held
  · rename_i stands
    refine ⟨⟨lock, lead, fun on => ?_⟩, rfl⟩
    obtain ⟨length, scheduled, forced, outbound⟩ := switches on
    have raised : k.txCeil ≤ (k.onControl (fun x => { x with txCeiling := p })).txCeil := Nat.le_of_not_lt fun low => stands ⟨on, low⟩
    exact ⟨length, fun w hw => ⟨(scheduled w hw).1.trans raised, (scheduled w hw).2⟩, fun q hq => (forced q hq).trans raised,
      fun none => (outbound none).trans raised⟩

/-! ### An inbound arrival -/

theorem Lane.countArrival_view (x : Lane) (j : Except BadHeader RxHeader) :
    (x.countArrival j).outCounter = x.outCounter ∧ (x.countArrival j).records = x.records ∧ (x.countArrival j).nf = x.nf ∧
      (x.countArrival j).modemTable = x.modemTable := by
  unfold Lane.countArrival
  dsimp only
  split
  · exact ⟨rfl, rfl, rfl, rfl⟩
  · exact ⟨rfl, rfl, rfl, rfl⟩
  · exact ⟨rfl, rfl, rfl, rfl⟩
  · split <;> exact ⟨rfl, rfl, rfl, rfl⟩

/-- Step 1 of an arrival: FALLBACK forces profile 0, and every other change of state leaves the switches (R20 to R24). -/
theorem Carrier.laneOk_hear {k : Carrier} {due : Option FrameNo} (h : k.laneOk due) (on : k.control.state ≠ .off)
    (good : Option RxHeader) : (k.hear good).laneOk due ∧ (k.hear good).control.state ≠ .off := by
  have stays : ∀ x : Control, x.state = k.control.state → x.txCeiling = k.control.txCeiling →
      ({ k with control := x } : Carrier).laneOk due ∧ ({ k with control := x } : Carrier).control.state ≠ .off := fun x state ceil =>
    ⟨Carrier.laneOk_of_same (by simp only [Carrier.laneView, state, ceil]) h, by rw [state]; exact on⟩
  have falls : ∀ x : Control, x.txCeiling = k.control.txCeiling →
      ({ k with control := x } : Carrier).enterFallback.laneOk due ∧ ({ k with control := x } : Carrier).enterFallback.control.state ≠ .off :=
    fun x ceil => ⟨Carrier.laneOk_forced h on nofun ceil rfl rfl rfl (Nat.zero_le _), nofun⟩
  have runs : ∀ x : Control, x.txCeiling = k.control.txCeiling →
      ({ k with control := x } : Carrier).enterRun.laneOk due ∧ ({ k with control := x } : Carrier).enterRun.control.state ≠ .off :=
    fun x ceil => ⟨Carrier.laneOk_state h on nofun ceil rfl rfl rfl (.inl rfl), nofun⟩
  unfold Carrier.hear
  dsimp only
  split
  · split
    · exact falls _ rfl
    · exact stays _ rfl rfl
  · split
    · exact falls _ rfl
    · exact stays _ rfl rfl
  · rename_i acquire
    unfold Carrier.hearAcquire
    split
    · exact stays _ rfl rfl
    · split_ifs
      · exact stays _ rfl rfl
      · exact stays _ rfl rfl
      · exact runs _ rfl
      · exact stays _ rfl rfl
  · rename_i fallback
    have state : k.control.state = .fallback := fallback
    unfold Carrier.hearFallback
    split
    · exact stays _ rfl rfl
    · split_ifs
      · exact stays _ rfl rfl
      · dsimp only
        split
        · exact runs _ rfl
        · exact ⟨Carrier.laneOk_state h on nofun rfl rfl rfl rfl (.inr (Carrier.scheduled_none h.2.2 on (by rw [state]; nofun))), nofun⟩
      · exact stays _ rfl rfl
  · exact stays _ rfl rfl
  · exact stays _ rfl rfl

/-- A request taken from a header is granted within the effective tx ceiling, and only in RUN (R89). -/
theorem Scheduler.arrival_switches (d : Scheduler) (running : Bool) (nf : FrameNo) (ceil : Nat) (good : Option RxHeader) :
    (d.arrival running nf ceil good).forced = d.forced ∧
      ∀ w ∈ (d.arrival running nf ceil good).scheduled, w ∈ d.scheduled ∨ (w.granted ≤ ceil ∧ running = true) := by
  have forget : ∀ h, (d.forget h).forced = d.forced ∧ (d.forget h).scheduled = d.scheduled := fun h => by
    unfold Scheduler.forget
    split <;> exact ⟨rfl, rfl⟩
  have schedule : ∀ (d : Scheduler) (g : Nat) (sf : FrameNo) (tag : Tag), g ≤ ceil → running = true →
      (d.schedule g sf tag).forced = d.forced ∧
        ∀ w ∈ (d.schedule g sf tag).scheduled, w ∈ d.scheduled ∨ (w.granted ≤ ceil ∧ running = true) := fun d g sf tag fits run => by
    unfold Scheduler.schedule
    split
    · exact ⟨rfl, fun w hw => .inl hw⟩
    · exact ⟨rfl, fun w hw => by cases hw; exact .inr ⟨fits, run⟩⟩
  unfold Scheduler.arrival
  split
  · exact ⟨rfl, fun w hw => .inl hw⟩
  · rename_i h
    obtain ⟨forced, scheduled⟩ := forget h
    dsimp only
    split
    · exact ⟨forced, fun w hw => .inl (by rw [scheduled] at hw; exact hw)⟩
    · split
      · rw [← forced, ← scheduled]
        unfold Scheduler.answerRequest
        split
        · exact ⟨rfl, fun w hw => .inl hw⟩
        · rename_i run
          have run : running = true := by simpa using run
          dsimp only
          split
          · obtain ⟨same, fits⟩ := schedule { d.forget h with scheduled := none } _ nf _ (Nat.min_le_right _ _) run
            exact ⟨same, fun w hw => (fits w hw).elim (fun old => nomatch old) .inr⟩
          · split
            · exact ⟨rfl, fun w hw => .inl hw⟩
            · exact schedule _ _ _ _ (Nat.min_le_right _ _) run
      · exact ⟨forced, fun w hw => .inl (by rw [scheduled] at hw; exact hw)⟩

theorem Carrier.laneOk_scheduleStep {k : Carrier} {due : Option FrameNo} (h : k.laneOk due) (good : Option RxHeader) :
    (k.scheduleStep good).laneOk due := by
  obtain ⟨lock, lead, switches⟩ := h
  refine ⟨lock, lead, fun on => ?_⟩
  obtain ⟨length, scheduled, forced, outbound⟩ := switches on
  obtain ⟨same, granted⟩ := k.sched.arrival_switches (decide (k.control.state = .run)) (k.lane.nf.getD 0) k.txCeil good
  refine ⟨length, fun w hw => ?_, fun p hp => forced p (by rw [← same]; exact hp), fun none => ?_⟩
  · rcases granted w hw with old | ⟨fits, run⟩
    · exact scheduled w old
    · exact ⟨fits, of_decide_eq_true run⟩
  · show (Scheduler.arrival _ _ _ _ _).outbound ≤ _
    rw [Scheduler.arrival_outbound]
    exact outbound (by rw [← same]; exact none)

theorem Carrier.laneOk_afterArrival {k : Carrier} {due : Option FrameNo} (h : k.laneOk due) (on : k.control.state ≠ .off)
    (f : InboundFrame) (j : Except BadHeader RxHeader) :
    (k.afterArrival f j).laneOk due ∧ (k.afterArrival f j).dist.request = k.dist.request := by
  obtain ⟨outCounter, records, nf, table⟩ := k.lane.countArrival_view j
  have counted : ({ k with lane := k.lane.countArrival j } : Carrier).laneOk due :=
    Carrier.laneOk_of_same (by simp only [Carrier.laneView, outCounter, records, nf, table]) h
  obtain ⟨heard, -⟩ := Carrier.laneOk_hear counted on (goodOf j)
  refine ⟨?_, congrArg Distributor.request (Carrier.hear_dist _ _)⟩
  have estimated : (({ k with lane := k.lane.countArrival j }.hear (goodOf j)).estimateAndRequest f (goodOf j)).1.laneOk due :=
    Carrier.laneOk_of_same rfl heard
  exact Carrier.laneOk_of_same rfl (Carrier.laneOk_scheduleStep estimated (goodOf j))

theorem State.lanesOk_signalIf {s : State} (h : s.lanesOk) (b : Bool) (l : Latch) : (s.signalIf b l).lanesOk :=
  State.lanesOk_of_carriers (by simp) (by simp) h

theorem State.lanesOk_signalContribution {s : State} (h : s.lanesOk) (c : CarrierId) : (s.signalContribution c).lanesOk :=
  State.lanesOk_of_carriers (by simp) (by simp) h

theorem State.lanesOk_enqueue {s : State} (h : s.lanesOk) (sd : Side) (f : Frame) : (s.enqueue sd f).lanesOk := by
  obtain ⟨a, -, -, -, e | e⟩ := s.enqueue_cases sd f
  · rw [e]; exact State.lanesOk_of_carriers (s := s) rfl rfl h
  · rw [e]; exact State.lanesOk_of_carriers (s := s) rfl rfl h

theorem State.lanesOk_reseqClosed : State.ReseqClosed State.lanesOk where
  onReseq s _ _ h := State.lanesOk_of_carriers (s := s) rfl rfl h
  signal s _ h := State.lanesOk_of_carriers (s := s) rfl rfl h
  egress s _ h := State.lanesOk_of_carriers (s := s) rfl rfl h
  enqueue _ sd f h := State.lanesOk_enqueue h sd f

theorem State.lanesOk_takeItem {s : State} (h : s.lanesOk) (c : CarrierId) (i : Item) : ((s.dropItem c).takeItem i).lanesOk :=
  State.lanesOk_reseqClosed.takeItem i (State.lanesOk_setCar_same h rfl)

theorem State.lanesOk_inbound {s : State} (h : s.lanesOk) {c : CarrierId} (idle : s.idleAt c) (f : InboundFrame) (taken : Nat) :
    (s.inbound c f taken).lanesOk := by
  by_cases off : (s.car c).control.state = .off
  · simp only [State.inbound, if_pos off]
    exact State.lanesOk_setCar_same h rfl
  · rw [State.inbound_eq off]
    obtain ⟨arrived, request⟩ := Carrier.laneOk_afterArrival (State.laneOk_idle h.begun idle) off f (judgeHeader (s.car c).ladder.length f)
    rw [← request] at arrived
    refine State.takeItems_keeps (P := State.lanesOk) (fun _ i hs => State.lanesOk_takeItem hs c i) taken ?_
    refine State.lanesOk_of_carriers (State.capture_filling _ _ _) (State.capture_carriers _ _ _) ?_
    refine State.lanesOk_signalIf (State.lanesOk_signalIf (State.lanesOk_signalContribution ?_ c) _ _) _ _
    refine State.lanesOk_signalIf (State.lanesOk_signalIf ?_ _ _) _ _
    exact State.lanesOk_setCar h idle arrived

end Sys2Proof.Machine
end


section
/-! PROOFS. Every step keeps the lanes and answers a next state (O57, O60); the device resets and the queue of commands (O1, O2, O3, O59). -/

namespace Sys2Proof.Machine

/-! ### The effects of the commands -/

/-- A stored parameter of a carrier, the tx ceiling apart, is not read by the lanes. -/
theorem Carrier.laneView_stored {p : Param} (plain : plainParam p = true) {k k' : Carrier} {v : Int} {r : Result}
    (h : storeCarrierParam p k v = some (r, k')) : k'.laneView = k.laneView := by
  cases p
  case recovery =>
    simp only [storeCarrierParam, storeRecovery] at h
    split_ifs at h <;> cases h <;> rfl
  case adaptationMode =>
    have changed : ∀ m, (changeMode k m).laneView = k.laneView := fun m => by unfold changeMode; split <;> rfl
    simp only [storeCarrierParam, storeMode] at h
    split_ifs at h <;> cases h <;> exact changed _
  case fixedProfile =>
    rw [storeFixed_eq] at h
    cases h
    unfold changeFixed
    dsimp only
    split <;> rfl
  case rxFloor =>
    simp only [storeCarrierParam, storeRxFloor] at h
    split_ifs at h
    cases h
    rfl
  case rxCeiling =>
    simp only [storeCarrierParam, storeRxCeiling] at h
    split_ifs at h
    cases h
    rfl
  case txCeiling | defaultClass | gapTime | lateRunLimit | managementTypeCode | alertMask => cases plain
  all_goals
    cases h
    rfl

theorem Ladder.length_of_validate {l : Ladder} (h : l.validate = none) : 1 ≤ l.length := by
  by_contra empty
  rw [Ladder.validate_of_empty (by omega)] at h
  cases h

theorem State.reset_lanesOk : State.reset.lanesOk := by decide

theorem State.lanesOk_deviceReset (s : State) : s.deviceReset.lanesOk :=
  State.lanesOk_of_carriers (s := State.reset) rfl rfl State.reset_lanesOk

theorem State.lanesOk_cutCapture {s : State} (h : s.lanesOk) (c : CarrierId) : (s.cutCapture c).lanesOk := by
  unfold State.cutCapture
  split
  · exact State.lanesOk_of_carriers (s := s) rfl rfl h
  · exact h

/-- Whatever a command does, it keeps the lanes in order: a carrier command is taken while no fill of its carrier is being carried out. -/
theorem State.Effect.lanesOk {s t : State} (effect : s.Effect t) (h : s.lanesOk) : t.lanesOk := by
  have completed : ∀ (c : CarrierId) (k : Carrier), k.laneOk k.dist.request → ((s.completeFillOf c).setCar c k).lanesOk := fun c _ hk =>
    State.lanesOk_setCar (State.lanesOk_completeFillOf h c) (s.idleAt_completeFillOf c) hk
  have found : ∀ c, ((s.completeFillOf c).car c).laneOk ((s.completeFillOf c).car c).dist.request := fun c =>
    State.laneOk_idle (State.lanesOk_completeFillOf h c).begun (s.idleAt_completeFillOf c)
  have state : ∀ c, ((s.completeFillOf c).car c).control.state = (s.car c).control.state := fun c => by
    rw [State.car_completeFillOf_control]
  have stands : ∀ c, (s.car c).control.state.carries = false → s.idleAt c := fun c hc => State.idleAt_of_state h.begun.2 hc
  cases effect with
  | none => exact h
  | cleared =>
    refine State.lanesOk_of_same (s := s) rfl (fun c => ?_) h
    simp only [State.car, State.clearStatus_carriers, Quad.get_map]
    rfl
  | ladder c l off locked =>
    have idle := stands c (by rw [off]; rfl)
    obtain ⟨lock, lead, -⟩ := State.laneOk_idle h.begun idle
    exact State.lanesOk_setCar h idle ⟨locked.trans lock, lead, fun on => absurd off on⟩
  | curve c start l => exact State.lanesOk_setCar_same h rfl
  | classifier x | limits t | gapTime n | lateRun n | typeCode n | alert a | emptied y => exact State.lanesOk_of_carriers (s := s) rfl rfl h
  | shedTable t => exact State.lanesOk_of_carriers (s := s) (by simp) (by simp) h
  | param c p v r k plain stored => exact State.lanesOk_setCar_same h (Carrier.laneView_stored plain stored)
  | txCeiling c p =>
    obtain ⟨changed, request⟩ := Carrier.laneOk_changeTxCeiling (found c) p
    exact completed c _ (by rw [request]; exact changed)
  | enable c off valid =>
    have idle := stands c (by rw [off]; rfl)
    refine State.lanesOk_signalContribution (State.lanesOk_setCar h idle ?_) c
    exact Carrier.laneOk_enabled (State.laneOk_idle h.begun idle) off (Ladder.length_of_validate valid)
  | disable c => exact State.lanesOk_signalContribution (State.lanesOk_cutCapture (completed c _ (Carrier.laneOk_disabled _)) c) c
  | restart c on =>
    exact State.lanesOk_signalContribution (completed c _ (Carrier.laneOk_startClearing (found c) (by rw [state]; exact on))) c
  | testEnter c p on fits =>
    refine State.lanesOk_signalContribution (completed c _ ?_) c
    exact Carrier.laneOk_forced (found c) (by rw [state]; exact on) nofun rfl rfl rfl rfl fits
  | testLeave c test =>
    have idle := stands c (by rw [test]; rfl)
    refine State.lanesOk_signalContribution (State.lanesOk_setCar h idle ?_) c
    exact Carrier.laneOk_forced (State.laneOk_idle h.begun idle) (by rw [test]; nofun) nofun rfl rfl rfl rfl (Nat.zero_le _)
  | clearHold c hold => exact completed c _ (Carrier.laneOk_state (found c) (by rw [state, hold]; nofun) nofun rfl rfl rfl rfl (.inl rfl))
  | sweep c p dwell test fits =>
    have idle := stands c (by rw [test]; rfl)
    have on : (s.car c).control.state ≠ .off := by rw [test]; nofun
    exact State.lanesOk_setCar h idle (Carrier.laneOk_forced (State.laneOk_idle h.begun idle) on on rfl rfl rfl rfl fits)
  | trafficReset => exact State.lanesOk_of_carriers (s := s.completeFill) rfl rfl (State.lanesOk_completeFill h.begun)
  | deviceReset => exact s.lanesOk_deviceReset

/-! ### A frame of commands, and ingress -/

theorem State.lanesOk_admitFrame {s : State} (h : s.lanesOk) (k : ClassId) (f : Frame) : (s.admitFrame k f).lanesOk := by
  obtain ⟨a, -, -, -, e | ⟨-, e⟩⟩ := s.admitFrame_cases k f
  · rw [e]; exact State.lanesOk_of_carriers (s := s) rfl rfl h
  · rw [e]; exact State.lanesOk_of_carriers (s := s) rfl rfl h

theorem State.lanesOk_beginFrameExecution {s : State} (h : s.lanesOk) : s.beginFrameExecution.lanesOk := by
  unfold State.beginFrameExecution
  split
  · exact h
  · split <;> exact State.lanesOk_of_carriers (s := s) rfl rfl h

theorem State.lanesOk_finishFrame {s : State} (h : s.lanesOk) : s.finishFrame.lanesOk := by
  unfold State.finishFrame
  split
  · have popped : ∀ a : Agent, State.lanesOk { s with agent := a } := fun a => State.lanesOk_of_carriers (s := s) rfl rfl h
    dsimp only
    unfold State.sendResponse
    split
    · exact State.lanesOk_of_carriers (s := s) rfl rfl h
    · exact State.lanesOk_admitFrame (popped _) _ _
  · exact h

theorem State.lanesOk_ranOne {s : State} (h : s.lanesOk) (x : Execution) (raw : RawCommand) (following : Nat) :
    (s.ranOne x raw following).lanesOk :=
  State.lanesOk_of_carriers (s := (checkAndRun (decodeCommand raw.code raw.args) (bodyLength x.entries) following s).2) rfl rfl
    ((checkAndRun_effect _ _ _ s).lanesOk h)

theorem State.lanesOk_executeFrame {s : State} (h : s.lanesOk) (n : Nat) : (s.executeFrame n).lanesOk :=
  State.executeFrame_keeps (P := State.lanesOk) (fun _ => State.lanesOk_beginFrameExecution) (fun _ => State.lanesOk_finishFrame)
    (fun t _ => t.lanesOk_deviceReset) (fun _ x raw rest _ _ ht => State.lanesOk_ranOne ht x raw rest.length) n h

theorem State.lanesOk_ingress {s : State} (h : s.lanesOk) (f : Frame) : (s.ingress f).lanesOk := by
  have counted : ∀ (x : SitePort) (y : Classifier), State.lanesOk { s with site := x, classifier := y } := fun x y =>
    State.lanesOk_of_carriers (s := s) rfl rfl h
  unfold State.ingress
  split_ifs
  case neg =>
    unfold State.acceptIngress
    dsimp only
    split
    · exact State.lanesOk_enqueue (counted _ s.classifier) _ _
    · unfold State.classify
      split
      · split
        · exact State.lanesOk_admitFrame (counted _ _) _ _
        · exact counted _ _
      · exact State.lanesOk_admitFrame (counted _ _) _ _
  all_goals exact counted _ s.classifier

/-! ### Every event -/

theorem State.beforeStart_on {s : State} {c : CarrierId} (on : (s.car c).control.state ≠ .off) :
    ((s.beforeStart c).car c).control.state ≠ .off := by
  have granted : ∀ t : State, (t.car c).control.state = (s.car c).control.state → (t.grantFill.car c).control.state = (s.car c).control.state := by
    intro t ht
    unfold State.grantFill
    split
    · rename_i d n _
      unfold State.openFill
      dsimp only
      have chosen : ((t.beginFill d n).car c).control.state = (s.car c).control.state := by
        rw [← ht, State.car_congr (t := t.setCar d ((t.car d).chooseProfile n).dropRequest) (by simp [State.beginFill]) c, State.car_setCar]
        split
        · rename_i same; subst same; simp
        · rfl
      have handed : ∀ kind p w, (((t.beginFill d n).handRecord kind d n p w).car c).control.state = (s.car c).control.state := fun kind p w => by
        rw [State.handRecord, State.car_updCar]
        split
        · rename_i same; subst same; exact chosen
        · exact chosen
      split
      · rw [State.car_setCar]
        split
        · rename_i same; subst same; exact ht
        · exact ht
      · split
        · exact chosen
        · exact handed _ _ _
        · exact handed _ _ _
    · exact ht
  have kept := State.beforeStart_keeps (P := fun t => (t.car c).control.state = (s.car c).control.state)
    (fun t ht => by rw [State.car_completeFill_control]; exact ht) granted c (s := s) rfl
  rw [kept]
  exact on

/-- Before a start of a carrier its lane is in order with no fill due (R1, R3, R4). -/
theorem State.beforeStart_lead {s : State} (h : s.lanesOk) (c : CarrierId) : ((s.beforeStart c).car c).laneOk none := by
  obtain ⟨served, idle⟩ := s.beforeStart_served c
  have ready := State.laneOk_idle (State.lanesOk_beforeStart h c).begun idle
  rwa [served] at ready

theorem State.Event.lanesOk {s t : State} (event : s.Event t) (h : s.lanesOk) : t.lanesOk := by
  cases event with
  | idle => exact h
  | start c m _ on =>
    have started := State.lanesOk_setCar (State.lanesOk_beforeStart h c) (s.beforeStart_served c).2
      (Carrier.laneOk_started (State.beforeStart_lead h c) (State.beforeStart_on on))
    exact State.lanesOk_of_carriers rfl rfl started
  | fill => exact State.lanesOk_fill h
  | fillNext => exact State.lanesOk_fillNext h
  | arrival c f n => exact State.lanesOk_inbound (State.lanesOk_completeFillOf h c) (s.idleAt_completeFillOf c) f n
  | item c i => exact State.lanesOk_takeItem h c i
  | tick => exact State.lanesOk_reseqClosed.tick h
  | ingress f => exact State.lanesOk_ingress h f
  | frame n => exact State.lanesOk_executeFrame h n
  | command x =>
    exact State.lanesOk_of_carriers (s := (checkAndRun (.ok x) 3 0 s).2) rfl rfl ((checkAndRun_effect (.ok x) 3 0 s).lanesOk h)
  | reset p => exact State.lanesOk_deviceReset _
  | release p => exact State.lanesOk_of_carriers (s := s) rfl rfl h

/-- Settles O57: every event keeps the lanes. A grant takes the profile of the frame from switches within the ceiling, a fill hands over
the record of the frame that was due, and a start asks for the next (R3, R4, R92). -/
theorem stepKeepsLeadLockAndSwitches : Obligations.StepKeepsLeadLockAndSwitches := by
  intro s t h stepped
  exact step_keeps (P := State.lanesOk) (fun s l hs => State.lanesOk_of_carriers (s := s) rfl rfl hs)
    (fun _ _ event => event.lanesOk) stepped h

/-! ### No command stops the block -/

/-- The record of the next frame is found where the fill lead stands. -/
theorem Carrier.recordOf_next {k : Carrier} (h : k.laneOk none) (on : k.control.state ≠ .off) :
    ∃ r, k.lane.recordOf (k.lane.outCounter + 1) = some r := by
  obtain ⟨-, records⟩ := Carrier.lead_of_none h.2.1 on
  refine Option.isSome_iff_exists.1 ?_
  rw [Lane.recordOf, List.find?_isSome]
  have listed : k.lane.outCounter + 1 ∈ k.lane.records.map FillRecord.fn := by rw [records]; exact List.mem_cons_self
  obtain ⟨r, held, number⟩ := List.mem_map.1 listed
  exact ⟨r, held, decide_eq_true number⟩

theorem State.outboundStart_answers {s : State} (h : s.lanesOk) (c : CarrierId) : ∃ t, s.outboundStart c = .next t := by
  unfold State.outboundStart
  split
  · exact ⟨s, rfl⟩
  · split
    · exact ⟨s, rfl⟩
    · rename_i on
      obtain ⟨r, held⟩ := Carrier.recordOf_next (State.beforeStart_lead h c) (State.beforeStart_on on)
      simp only [State.startFrame, held]
      exact ⟨_, rfl⟩

theorem exec_answers (i : Instr) {s : State} (h : s.lanesOk) : ∃ t, exec i s = .next t := by
  cases i
  case outboundFrameStart c => exact State.outboundStart_answers h c
  case requestTimerExpiry c =>
    simp only [exec, execRequestTimerExpiry]
    split
    · exact State.outboundStart_answers h c
    · exact ⟨s, rfl⟩
  all_goals exact ⟨_, rfl⟩

/-- Settles O60: a start finds its record under the fill lead, and every other command answers a next state. -/
theorem noStepStops : Obligations.NoStepStops := by
  intro s h
  unfold State.stepsOn step
  split
  · exact exec_answers _ (State.lanesOk_of_carriers (s := s) rfl rfl h)
  · exact ⟨_, rfl⟩

/-! ### The queue of commands and the resets -/

/-- Settles O1. -/
theorem stepRunsFrontCommand : Obligations.StepRunsFrontCommand := ⟨fun _ _ _ => rfl, fun _ => rfl⟩

/-- Settles O59: the reset values have every form, and a device reset leaves them but for the address, the pins and what is outside. -/
theorem resetHasEveryForm : Obligations.ResetHasEveryForm :=
  ⟨⟨State.reset_storesOk, State.reset_lanesOk, State.reset_settingsOk, State.reset_levelsOk⟩, fun s =>
    ⟨s.storesOk_deviceReset, s.lanesOk_deviceReset, s.keeps_reset.1 State.reset_settingsOk, s.keeps_reset.2 State.reset_levelsOk⟩⟩

theorem Carrier.reset_atReset : Carrier.reset.atReset := by decide

theorem Classifier.reset_table (i : Fin 64) : Classifier.reset.table[i] = ⟨false, .tagged, 0, 0, 0, 0, .cls, 0, 0⟩ := by
  simp [Classifier.reset, FlowEntry.zero]

theorem State.car_deviceReset (s : State) (c : CarrierId) : s.deviceReset.car c = Carrier.reset := Quad.get_all _ c

/-- A device reset leaves every block at its reset value, the address sampled from the pins. -/
theorem State.atReset_deviceReset (s : State) : s.deviceReset.atReset s.pins.addr :=
  ⟨fun c => by rw [State.car_deviceReset]; exact Carrier.reset_atReset, rfl, Classifier.reset_table, rfl, rfl, rfl, rfl, rfl, rfl, rfl, rfl⟩

/-- Settles O2: the three are the device reset, of the state with the pins that the event gives. -/
theorem deviceResetValues : Obligations.DeviceResetValues := by
  intro s a
  exact ⟨⟨_, rfl, State.atReset_deviceReset _, rfl, rfl, rfl, rfl⟩, ⟨_, rfl, State.atReset_deviceReset _, rfl, rfl, rfl, rfl⟩,
    fun live => ⟨_, State.unlessHeld_live live _, s.atReset_deviceReset, rfl, rfl, rfl, rfl⟩⟩

/-- While the line is held an outbound start is ignored. -/
theorem State.outboundStart_held {s : State} (h : s.pins.resetLow = true) (c : CarrierId) : s.outboundStart c = .next s := by
  rw [State.outboundStart, if_pos h]

/-- Settles O3: the outbound starts look at the line themselves, and every other command but the three runs unless it is held. -/
theorem heldResetHoldsEverything : Obligations.HeldResetHoldsEverything := by
  refine ⟨fun i s held assertion power release => ?_, fun _ => rfl⟩
  cases i
  case outboundFrameStart c => exact State.outboundStart_held held c
  case requestTimerExpiry c =>
    simp only [exec, execRequestTimerExpiry]
    split
    · exact State.outboundStart_held held c
    · rfl
  case resetLineAssertion a => exact absurd rfl (assertion a)
  case powerOn a => exact absurd rfl (power a)
  case resetLineRelease => exact absurd rfl release
  all_goals exact congrArg Host.Outcome.next (if_pos held)

end Sys2Proof.Machine
end


section
/-! PROOFS. Chapter 1 outbound: the fills before a start, the start itself, its header and the codecs (O4 to O7). -/

namespace Sys2Proof.Machine

/-! ### The codecs (Chapter 13) -/

/-- The four fields of a byte of two bits each. -/
theorem extract_quarters (a b c d : BitVec 2) :
    (a ++ b ++ c ++ d).extractLsb' 6 2 = a ∧ (a ++ b ++ c ++ d).extractLsb' 4 2 = b ∧ (a ++ b ++ c ++ d).extractLsb' 2 2 = c ∧
      (a ++ b ++ c ++ d).extractLsb' 0 2 = d :=
  ⟨(extract_append_outside (m := 6) (n := 2) (w := 2) (l := 4) (a ++ b ++ c) d).trans
      ((extract_append_outside (m := 4) (n := 2) (w := 2) (l := 2) (a ++ b) c).trans (extract_append_high a b)),
    (extract_append_outside (m := 6) (n := 2) (w := 2) (l := 2) (a ++ b ++ c) d).trans
      ((extract_append_outside (m := 4) (n := 2) (w := 2) (l := 0) (a ++ b) c).trans (extract_append_low a b)),
    (extract_append_outside (m := 6) (n := 2) (w := 2) (l := 0) (a ++ b ++ c) d).trans (extract_append_low (a ++ b) c),
    extract_append_low (a ++ b ++ c) d⟩

/-- A header is read back from its bytes. -/
theorem readHeaderBody_headerBytes (h : HeaderBits) : readHeaderBody (headerBytes h) = h := by
  obtain ⟨status, fn, profile, target, code, kind, reqTag, verdict, ansTag, granted, sf, firstSeq, dataCount⟩ := h
  obtain ⟨first, second, third, fourth⟩ := extract_quarters kind reqTag verdict ansTag
  rw [HeaderBits.mk.injEq]
  refine ⟨extract_append_high status _, ?_, extract_append_high profile target, extract_append_low profile target, rfl, first, second,
    third, fourth, extract_append_high granted _, ?_, join_extract (m := 8) (n := 8) firstSeq, ?_⟩
  · exact (congrArg (· ++ fn.extractLsb' 0 8) (extract_append_low status _)).trans (join_extract (m := 4) (n := 8) fn)
  · exact (congrArg (· ++ sf.extractLsb' 0 8) (extract_append_low granted _)).trans (join_extract (m := 4) (n := 8) sf)
  · exact (congrArg (· ++ dataCount.extractLsb' 0 8) (extract_append_low (0#6) _)).trans (join_extract (m := 2) (n := 8) dataCount)

/-- The check value that a header carries is the one that its receiver computes (R9, R12). -/
theorem headerCheckGood_headerBytes (h : HeaderBits) : headerCheckGood (headerBytes h) = true := by
  refine decide_eq_true ?_
  have body : (headerBytes h).take 12 = headerBody h := rfl
  rw [body]
  exact (join_extract (m := 8) (n := 8) (crc16 (headerBody h))).symm

theorem readHeaderBody_header (k : Carrier) (r : FillRecord) : readHeaderBody (k.header r) = k.headerBits r :=
  readHeaderBody_headerBytes _

/-- The three flags of a segment in the bits of their byte (section 13.2). -/
theorem segmentFlags_bits : ∀ first last idle : Bool,
    (BitVec.ofBool first ++ BitVec.ofBool last ++ BitVec.ofBool idle ++ 0#5).getLsbD 7 = first ∧
      (BitVec.ofBool first ++ BitVec.ofBool last ++ BitVec.ofBool idle ++ 0#5).getLsbD 6 = last ∧
      (BitVec.ofBool first ++ BitVec.ofBool last ++ BitVec.ofBool idle ++ 0#5).getLsbD 5 = idle := by decide

/-- A segment is read back from its 68 bytes (section 13.2). -/
theorem readSegment_segmentBytes (g : Segment) (count : g.count < 256) (payload : g.payload.length = 64) :
    readSegment (segmentBytes g) = g := by
  obtain ⟨seq, first, last, idle, n, bytes⟩ := g
  have full : padTo 64 bytes = bytes := padTo_full 64 bytes payload.ge
  have number : n % 256 = n := Nat.mod_eq_of_lt count
  have read : bytesFrom ([seq.extractLsb' 8 8, seq.extractLsb' 0 8, BitVec.ofBool first ++ BitVec.ofBool last ++ BitVec.ofBool idle ++ 0#5,
      BitVec.ofNat 8 n] ++ bytes) 4 64 = bytes := List.take_of_length_le payload.le
  obtain ⟨bit7, bit6, bit5⟩ := segmentFlags_bits first last idle
  rw [Segment.mk.injEq]
  refine ⟨join_extract (m := 8) (n := 8) seq, bit7, bit6, bit5, (BitVec.toNat_ofNat n 8).trans number, ?_⟩
  rw [segmentBytes, full]
  exact read

/-- One command entry on the wire (section 13.3). -/
def RawCommand.bytes (x : RawCommand) : List Byte := [x.code, x.tag] ++ be16 x.args.length ++ x.args

/-- Command entries are read back, whatever follows the last one (R170). -/
theorem readCommands_bytes (l : List RawCommand) (rest : List Byte) (h : ∀ x ∈ l, x.args.length < 65536) :
    readCommands l.length (l.flatMap RawCommand.bytes ++ rest) = some l := by
  induction l with
  | nil => rfl
  | cons x l ih =>
    rw [List.forall_mem_cons] at h
    have length : (word16 (BitVec.ofNat 8 (x.args.length / 256)) (BitVec.ofNat 8 x.args.length)).toNat = x.args.length :=
      word16_be16 _ h.1
    simp only [List.flatMap_cons, RawCommand.bytes, be16, List.cons_append, List.nil_append, List.append_assoc, List.length_cons,
      readCommands, length, List.drop_left, List.take_left, List.length_append]
    rw [if_neg (by omega)]
    rw [ih h.2]
    rfl

/-- Settles O7. -/
theorem codecsRoundTrip : Obligations.CodecsRoundTrip := by
  refine ⟨fun h => ⟨rfl, headerCheckGood_headerBytes h, readHeaderBody_headerBytes h, rfl, extract_append_high _ _⟩,
    fun g count payload => ⟨?_, readSegment_segmentBytes g count payload⟩, fun l rest h => readCommands_bytes l rest h⟩
  simp [segmentBytes, payload]

/-- Settles O6: the bytes are read back as the fields that the carrier's state gave them. -/
theorem headerCarriesCarrierState : Obligations.HeaderCarriesCarrierState := by
  intro k r
  dsimp only
  rw [readHeaderBody_header]
  refine ⟨rfl, rfl, rfl, rfl, rfl, rfl, ?_, ?_, ?_⟩
  · simp only [Carrier.headerBits, requestFields]
    split <;> rfl
  · simp only [Carrier.headerBits, requestFields]
    cases k.req.state <;> exact ⟨rfl, rfl⟩
  · simp only [Carrier.headerBits, answerFields]
    rcases k.sched.answer with _ | ⟨tag, verdict⟩
    · exact ⟨rfl, rfl, rfl, rfl⟩
    · cases verdict <;> exact ⟨rfl, rfl, rfl, rfl⟩

/-! ### The fills before a start -/

theorem State.completeFillOf_none {s : State} (h : s.filling = none) (c : CarrierId) : s.completeFillOf c = s :=
  State.completeFillOf_of_ne fun w hw => by rw [h] at hw; cases hw

theorem State.beforeStart_of_open {s : State} {w : OpenFill} (h : s.filling = some w) :
    s.beforeStart w.carrier = s.completeFill.beforeStart w.carrier := by
  rw [State.beforeStart, State.beforeStart, State.completeFillOf_of_eq h rfl, State.completeFillOf_none s.completeFill_filling]

/-- With a request of the carrier standing, the next whole fill comes first (R3, R121). -/
theorem State.beforeStart_of_request {s : State} {c : CarrierId} (idle : ∀ w, s.filling = some w → w.carrier ≠ c)
    (request : (s.car c).dist.request ≠ none) : s.beforeStart c = s.fillNext.beforeStart c := by
  have fewer := State.standing_fillNext request
  have most := s.standing_le
  have first : s.serveBefore c 4 = s.fillNext.serveBefore c 3 := by
    rw [State.serveBefore, if_pos (Option.isSome_iff_ne_none.2 request)]
  have whole : s.fillNext.completeFillOf c = s.fillNext := State.completeFillOf_none (State.completeFill_filling _) c
  rw [State.beforeStart, State.beforeStart, State.completeFillOf_of_ne idle, whole, State.serveBefore_stable c 3 s.fillNext (by omega),
    first]

theorem State.beforeStart_of_served {s : State} {c : CarrierId} (idle : ∀ w, s.filling = some w → w.carrier ≠ c)
    (request : (s.car c).dist.request = none) : s.beforeStart c = s := by
  rw [State.beforeStart, State.completeFillOf_of_ne idle, State.serveBefore_of_none request]

/-- A whole fill is what FILL makes without a plan, once no fill is being carried out. -/
theorem State.fill_withoutPlan (s : State) :
    State.fill { s.completeFill with drawPlan := [] } = { s.fillNext with drawPlan := [] } := by
  rw [State.fill_none (s := { s.completeFill with drawPlan := [] }) s.completeFill_filling, State.grantFill_withPlan,
    State.goOn_nil (s := { s.completeFill.grantFill with drawPlan := [] }) rfl, State.completeFill_withPlan]
  rfl

/-! ### The start -/

theorem Requester.timerExpires_false {q : Requester} (h : ∀ r, q.state = .requesting r → 1 < q.timer) : q.timerExpires = false := by
  unfold Requester.timerExpires
  split
  · rename_i r hr
    exact decide_eq_false (Nat.not_le_of_gt (h r hr))
  · rfl

/-- Settles O4: the fills that stand first, then the four steps of R3; a header reads nothing of the timer that the start counts. -/
theorem outboundStartSendsHeldFrame : Obligations.OutboundStartSendsHeldFrame := by
  refine ⟨fun s c _ off => State.outboundStart_off off, fun s c => ⟨?_, fun idle => ⟨?_, ?_⟩, fun live => ⟨?_, ?_⟩⟩, ?_⟩
  · rintro ⟨w, hw, rfl⟩
    exact State.beforeStart_of_open hw
  · exact State.beforeStart_of_request idle
  · exact State.beforeStart_of_served idle
  · rw [State.fillNext, State.completeFill_drawPlan, State.grantFill_drawPlan, State.completeFill_drawPlan]
  · have held : State.live { s.completeFill with drawPlan := [] } := (congrArg Pins.resetLow s.completeFill_pins).trans live
    rw [← State.fill_withoutPlan]
    exact State.unlessHeld_live held State.fill
  · intro s₀ c r live on
    dsimp only
    intro held running
    have started := State.outboundStart_next live on held
    dsimp only at started
    have timer := Requester.countStart_of_not_expires (Requester.timerExpires_false running)
    have header : ({ (s₀.beforeStart c).car c with req := ((s₀.beforeStart c).car c).req.countStart } : Carrier).header r =
        ((s₀.beforeStart c).car c).header r := Carrier.header_congr r rfl rfl (by rw [timer]) (by rw [timer]) rfl
    refine started.trans ?_
    rw [header, Carrier.started, timer] <;> rfl

/-- Settles O5: a timer at 1 or 0 runs out at the start, whose header is assembled from the abandoned request. -/
theorem requestTimerRunsOut : Obligations.RequestTimerRunsOut := by
  intro s₀ c r q live on
  dsimp only
  intro held requesting timer
  have expires : ((s₀.beforeStart c).car c).req.timerExpires = true := by
    simp only [Requester.timerExpires, requesting, decide_eq_true_eq]
    exact timer
  have counted := Requester.countStart_of_expires expires
  have started := State.outboundStart_next live on held
  dsimp only at started
  rw [Carrier.started, counted] at started
  have expiry : exec (.requestTimerExpiry c) s₀ = s₀.outboundStart c := by
    have now : (s₀.car c).req.timerExpires = true := by rw [← State.beforeStart_req s₀ c c]; exact expires
    simp only [exec, execRequestTimerExpiry, now, if_true]
  refine ⟨expiry.trans started, started, ?_, ?_⟩
  · rw [readHeaderBody_header]; rfl
  · rw [readHeaderBody_header]; rfl

end Sys2Proof.Machine
end


section
/-! PROOFS. The parameters of SET and GET (R19, R33 to R35, R76, R94, R134, R168, R177, R182): what each stores, and O8 to O12. -/

namespace Sys2Proof.Machine

/-! ### The numeric parameters of a carrier -/

/-- A SET that stores a value of a carrier returns it. -/
theorem aloneAnswer_set_value {s : State} (live : s.live) {p : Param} (plain : plainParam p = true) {b : Byte} {c : CarrierId}
    (hb : b.toNat = c.val) {v : BitVec 32} {r : Result} {k : Carrier} (stored : storeCarrierParam p (s.car c) v.toInt = some (r, k))
    {x : Int} (value : carrierParam p k = x) : aloneAnswer (.set p b v) s = .next ((s.setCar c k).returned ⟨r, signed32 x⟩) := by
  rw [← value]
  exact aloneAnswer_set_stored live plain hb stored

/-- Settles O8: each parameter stores its clamped value, which is read back as that value. -/
theorem setNumericParameters : Obligations.SetNumericParameters := by
  intro s c b v live hb
  exact ⟨aloneAnswer_set_value live rfl hb (storeNa_eq _ _) (clampInt_toNat (by decide) _),
    aloneAnswer_set_value live rfl hb (storeTf_eq _ _) (clampInt_toNat (by decide) _),
    aloneAnswer_set_value live rfl hb (storePb_eq _ _) (clampInt_toNat (by decide) _),
    aloneAnswer_set_value live rfl hb (storeAd_eq _ _) (clampInt_toNat (by decide) _),
    aloneAnswer_set_value live rfl hb (storeAu_eq _ _) (clampInt_toNat (by decide) _),
    aloneAnswer_set_value live rfl hb (storeBs_eq _ _) (clampInt_toNat (by decide) _),
    aloneAnswer_set_value live rfl hb (storeLp_eq _ _) (clampInt_toNat (by decide) _),
    aloneAnswer_set_value live rfl hb (storeNu_eq _ _) (clampInt_toNat (by decide) _),
    aloneAnswer_set_value live rfl hb (storeTh_eq _ _) (clampInt_toNat (by decide) _),
    aloneAnswer_set_value live rfl hb (storeGu_eq _ _) rfl,
    aloneAnswer_set_value live rfl hb (storeTr_eq _ _) (clampInt_toNat (by decide) _),
    aloneAnswer_set_value live rfl hb (storeDs_eq _ _) (clampInt_toNat (by decide) _),
    aloneAnswer_set_value live rfl hb (storeDw_eq _ _) (clampInt_toNat (by decide) _)⟩

/-! ### Codes, modes and the receive window -/

theorem changeMode_eq (k : Carrier) (m : Mode) :
    changeMode k m =
      if k.control.mode = m then k
      else
        { k with
          control := { k.control with mode := m }
          req := { k.req with state := .idle, timer := 0, dwell := 0, holdOff := k.req.th } } := rfl

theorem changeFixed_eq (k : Carrier) (p : Nat) :
    changeFixed k p =
      { k with
        control := { k.control with fixedProfile := p }
        req :=
          if k.control.mode = .fixed ∧ p ≠ k.control.fixedProfile then
            { k.req with state := .idle, timer := 0, dwell := 0, holdOff := k.req.th }
          else k.req } := by
  unfold changeFixed
  dsimp only
  split <;> rfl

theorem changeMode_param (k : Carrier) : carrierParam .adaptationMode (changeMode k .adaptive) = 0 ∧
    carrierParam .adaptationMode (changeMode k .fixed) = 1 := by
  have mode : ∀ m, (changeMode k m).control.mode = m := fun m => by
    rw [changeMode_eq]
    split
    · assumption
    · rfl
  simp only [carrierParam, mode, and_self]

theorem storeRxFloor_eq (k : Carrier) (v : Int) :
    storeCarrierParam .rxFloor k v =
      if k.control.rxCeiling < (clampInt 0 11 v).toNat then none
      else some (if 0 ≤ v ∧ v ≤ 11 then .ok else .clamped, { k with control := { k.control with rxFloor := (clampInt 0 11 v).toNat } }) := by
  simp only [storeCarrierParam, storeRxFloor, storeClamped_eq (show (0 : Int) ≤ 11 by decide)]
  rfl

theorem storeRxCeiling_eq (k : Carrier) (v : Int) :
    storeCarrierParam .rxCeiling k v =
      if (clampInt 0 11 v).toNat < k.control.rxFloor then none
      else some (if 0 ≤ v ∧ v ≤ 11 then .ok else .clamped, { k with control := { k.control with rxCeiling := (clampInt 0 11 v).toNat } }) := by
  simp only [storeCarrierParam, storeRxCeiling, storeClamped_eq (show (0 : Int) ≤ 11 by decide)]
  rfl

/-- Settles O9: the codes store or refuse, a mode that stands is kept, and a window limit is compared with the other one stored. -/
theorem setCodesModesAndReceiveWindow : Obligations.SetCodesModesAndReceiveWindow := by
  refine ⟨fun s c b v live hb => ⟨fun v0 => ?_, fun v1 => ?_, fun n0 n1 => ⟨?_, ?_⟩, fun v0 => ?_, fun v1 => ?_, ?_⟩, fun s c b v live hb => ⟨?_, ?_⟩⟩
  · refine aloneAnswer_set_value live rfl hb ?_ rfl
    simp only [storeCarrierParam, storeRecovery, v0, if_true]
    rfl
  · refine aloneAnswer_set_value live rfl hb ?_ rfl
    simp only [storeCarrierParam, storeRecovery, v1, one_ne_zero, if_true, if_false]
    rfl
  · refine aloneAnswer_set_refused live rfl hb ?_
    simp only [storeCarrierParam, storeRecovery, n0, n1, if_false]
  · refine aloneAnswer_set_refused live rfl hb ?_
    simp only [storeCarrierParam, storeMode, n0, n1, if_false]
  · refine aloneAnswer_set_value live rfl hb (r := .ok) (k := changeMode (s.car c) .adaptive) ?_ (changeMode_param _).1
    simp only [storeCarrierParam, storeMode, v0, if_true]
  · refine aloneAnswer_set_value live rfl hb (r := .ok) (k := changeMode (s.car c) .fixed) ?_ (changeMode_param _).2
    simp only [storeCarrierParam, storeMode, v1, one_ne_zero, if_true, if_false]
  · refine aloneAnswer_set_value live rfl hb ?_ (clampInt_toNat (by decide) _)
    rw [storeFixed_eq, changeFixed_eq]
    rfl
  · have stored := storeRxFloor_eq (s.car c) v.toInt
    by_cases low : (s.car c).control.rxCeiling < (clampInt 0 11 v.toInt).toNat
    · rw [if_pos low] at stored
      exact (aloneAnswer_set_refused live rfl hb stored).trans (congrArg Host.Outcome.next (if_pos low).symm)
    · rw [if_neg low] at stored
      exact (aloneAnswer_set_value live rfl hb stored (clampInt_toNat (by decide) _)).trans (congrArg Host.Outcome.next (if_neg low).symm)
  · have stored := storeRxCeiling_eq (s.car c) v.toInt
    by_cases high : (clampInt 0 11 v.toInt).toNat < (s.car c).control.rxFloor
    · rw [if_pos high] at stored
      exact (aloneAnswer_set_refused live rfl hb stored).trans (congrArg Host.Outcome.next (if_pos high).symm)
    · rw [if_neg high] at stored
      exact (aloneAnswer_set_value live rfl hb stored (clampInt_toNat (by decide) _)).trans (congrArg Host.Outcome.next (if_neg high).symm)

/-! ### The tx ceiling -/

/-- The switches that the Scheduler keeps at a lowered ceiling (R94). -/
theorem Scheduler.lowerCeiling_eq (d : Scheduler) (top : Nat) :
    d.lowerCeiling top =
      { d with
        forced :=
          match d.forced with
          | some f => some (min f top)
          | none => if top < d.outbound then some top else none
        scheduled :=
          if d.forced = none ∧ top < d.outbound then none
          else
            match d.scheduled with
            | some w => if w.granted ≤ top then some w else if top = d.outbound then none else some { w with granted := top }
            | none => none } := by
  obtain ⟨outbound, scheduled, forced, answer, ds, a, b, c, e, f, g⟩ := d
  have lowered : ∀ (x : Option Nat) (y : Option Scheduled),
      Scheduler.lowerScheduled ⟨outbound, y, x, answer, ds, a, b, c, e, f, g⟩ top =
        ⟨outbound, match y with
          | some w => if w.granted ≤ top then some w else if top = outbound then none else some { w with granted := top }
          | none => none, x, answer, ds, a, b, c, e, f, g⟩ := fun x y => by
    rcases y with _ | w
    · rfl
    · by_cases fits : w.granted ≤ top
      · simp only [Scheduler.lowerScheduled, Nat.not_lt.2 fits, fits, if_false, if_true]
      · simp only [Scheduler.lowerScheduled, Nat.lt_of_not_le fits, fits, if_false, if_true]
  rcases forced with _ | p
  · by_cases above : top < outbound
    · simp only [Scheduler.lowerCeiling, above, Scheduler.force, lowered, and_self, if_true]
    · simp only [Scheduler.lowerCeiling, above, lowered, and_false, if_false]
  · by_cases above : top < p
    · simp only [Scheduler.lowerCeiling, above, lowered, reduceCtorEq, false_and, if_true, if_false, Nat.min_eq_right above.le]
    · simp only [Scheduler.lowerCeiling, above, lowered, reduceCtorEq, false_and, if_false, Nat.min_eq_left (Nat.le_of_not_lt above)]

theorem changeTxCeiling_param (k : Carrier) (p : Nat) : (changeTxCeiling k p).control.txCeiling = p := by
  unfold changeTxCeiling
  dsimp only
  split <;> rfl

/-- Settles O10: the lowered ceiling acts through the Scheduler's rule and the sweep's. -/
theorem setTxCeilingActsAtOnce : Obligations.SetTxCeilingActsAtOnce := by
  intro s₀ c b v live hb
  have stored := storeTxCeiling_eq ((s₀.completeFillOf c).car c) v.toInt
  have set := aloneAnswer_setTxCeiling live hb stored
  rw [show carrierParam .txCeiling (changeTxCeiling ((s₀.completeFillOf c).car c) (clampInt 0 11 v.toInt).toNat) = clampInt 0 11 v.toInt from
    (congrArg Int.ofNat (changeTxCeiling_param _ _)).trans (clampInt_toNat (by decide) _)] at set
  refine set.trans ?_
  have changed : ∀ (k : Carrier) (p : Nat), changeTxCeiling k p =
      if k.control.state ≠ .off ∧ min p (k.ladder.length - 1) < min k.control.txCeiling (k.ladder.length - 1) then
        { k with
          control := { k.control with txCeiling := p }
          sched := k.sched.lowerCeiling (min p (k.ladder.length - 1))
          test :=
            if k.test.sweepActive ∧ min p (k.ladder.length - 1) < k.test.sweepStep then
              { k.test with sweepStep := min p (k.ladder.length - 1), sweepCount := 0 }
            else k.test }
      else { k with control := { k.control with txCeiling := p } } := fun _ _ => rfl
  rw [changed, Scheduler.lowerCeiling_eq]
  rfl

/-! ### The parameters of the device -/

/-- A SET of a parameter of the device that is stored returns the value read back. -/
theorem setDeviceParam_stored {s t : State} {r : Result} {stored : Stored State} {read : State → Int} (h : stored = some (r, t)) {x : Int}
    (value : read t = x) : setDeviceParam stored read s = answer r (signed32 x) t := by
  subst h value
  rfl

theorem storeTypeCode_eq {v : Int} (h : v ≠ 0x8100) (s : State) :
    storeTypeCode s v =
      some (if 0x0600 ≤ v ∧ v ≤ 0xFFFF then .ok else .clamped,
        { s with agent := { s.agent with typeCode := BitVec.ofNat 16 (clampInt 0x0600 0xFFFF v).toNat } }) := by
  have other : ¬ v = (Config.vlanTagId : Nat) := h
  rw [storeTypeCode, if_neg other, storeClamped_eq (by decide)]
  have number : BitVec.ofInt 16 (clampInt 0x0600 0xFFFF v) = BitVec.ofNat 16 (clampInt 0x0600 0xFFFF v).toNat := by
    conv_lhs => rw [← clampInt_toNat (by decide : (0 : Int) ≤ 0x0600) v]
    exact BitVec.ofInt_natCast 16 _
  rw [number]

theorem storeDefaultClass_eq (s : State) (v : Int) :
    storeDefaultClass s v =
      some (if 0 ≤ v ∧ v ≤ 3 then .ok else .clamped,
        { s with classifier := { s.classifier with defaultClass := Fin.ofNat 4 (clampInt 0 3 v).toNat } }) :=
  storeClamped_eq (by decide) _ _

theorem storeTg_eq (s : State) (v : Int) :
    storeTg s v =
      some (if 1 ≤ v ∧ v ≤ 255 then .ok else .clamped, { s with reseq := { s.reseq with tg := (clampInt 1 255 v).toNat } }) :=
  storeClamped_eq (by decide) _ _

theorem storeK_eq (s : State) (v : Int) :
    storeK s v =
      some (if 1 ≤ v ∧ v ≤ 1024 then .ok else .clamped, { s with reseq := { s.reseq with k := (clampInt 1 1024 v).toNat } }) :=
  storeClamped_eq (by decide) _ _

/-- The type code stored is its own number. -/
theorem typeCode_toNat (v : Int) : ((BitVec.ofNat 16 (clampInt 0x0600 0xFFFF v).toNat).toNat : Int) = clampInt 0x0600 0xFFFF v := by
  have low := clampInt_lower 0x0600 0xFFFF v
  have high := clampInt_upper 0x0600 0xFFFF v (by decide)
  rw [BitVec.toNat_ofNat, Nat.mod_eq_of_lt (by omega)]
  omega

/-- Settles O11. -/
theorem setDeviceParameters : Obligations.SetDeviceParameters := by
  intro s v live
  have ran : ∀ (p : Param) (r : Ran), runSet p 0 v s = r → aloneAnswer (.set p 0 v) s = .next (r.2.returned r.1) := fun p r h => by
    rw [aloneAnswer_set live, h]
  have low := clampInt_lower 0 3 v.toInt
  have high := clampInt_upper 0 3 v.toInt (by decide)
  refine ⟨⟨Fin.ofNat 4 (clampInt 0 3 v.toInt).toNat, ?_, ?_⟩, ?_, ?_, fun tag => ?_, fun other => ?_, ?_⟩
  · show (((clampInt 0 3 v.toInt).toNat % 4 : Nat) : Int) = clampInt 0 3 v.toInt
    omega
  · refine ran .defaultClass _ (setDeviceParam_stored (s := s) (storeDefaultClass_eq s v.toInt) (x := clampInt 0 3 v.toInt) ?_)
    show (((clampInt 0 3 v.toInt).toNat % 4 : Nat) : Int) = clampInt 0 3 v.toInt
    omega
  · exact ran .gapTime _ (setDeviceParam_stored (s := s) (storeTg_eq s v.toInt) (clampInt_toNat (by decide) _))
  · exact ran .lateRunLimit _ (setDeviceParam_stored (s := s) (storeK_eq s v.toInt) (clampInt_toNat (by decide) _))
  · refine ran .managementTypeCode (refuse .range s) ?_
    have refused : storeTypeCode s v.toInt = none := if_pos tag
    simp only [runSet, refused, setDeviceParam]
  · exact ran .managementTypeCode _ (setDeviceParam_stored (s := s) (storeTypeCode_eq other s) (typeCode_toNat _))
  · have mask : v.setWidth 21 = v.extractLsb' 0 21 := BitVec.setWidth_eq_extractLsb' (by decide)
    rw [← mask]
    exact ran .alertMask _ rfl

/-! ### GET -/

/-- The parameters of a carrier in the order of their codes (R177). -/
def carrierParams : List Param :=
  [.acquisitionCountLimit, .freshnessLimit, .recovery, .adaptationMode, .fixedProfile, .rxFloor, .rxCeiling, .txCeiling, .blockPenalty,
    .fallShift, .riseShift, .slopeShift, .lookahead, .upshiftDwell, .holdOff, .urgentSlope, .requestTime, .stepDelay, .sweepDwell]

theorem carrierParams_carrier : ∀ p ∈ carrierParams, deviceParam p = false := by decide

theorem paramOf_carrier {code : Byte} (low : 1 ≤ code.toNat) (high : code.toNat ≤ 19) :
    paramOf code = carrierParams[code.toNat - 1]? := by
  unfold paramOf
  generalize code.toNat = n at low high
  interval_cases n <;> rfl

/-- The values of a carrier's parameters in the order of their codes. -/
def Carrier.values (k : Carrier) : List Int :=
  [k.control.na, k.control.tf, if k.control.recovery = .auto then 0 else 1, if k.control.mode = .adaptive then 0 else 1,
    k.control.fixedProfile, k.control.rxFloor, k.control.rxCeiling, k.control.txCeiling, k.est.pb, k.est.ad, k.est.au,
    k.est.bs, k.est.lp, k.req.nu, k.req.th, k.req.gu, k.req.tr, k.sched.ds, k.test.dw]

theorem Carrier.values_eq (k : Carrier) : k.values = carrierParams.map (fun p => carrierParam p k) := by
  have recovery : (if k.control.recovery = .auto then (0 : Int) else 1) = carrierParam .recovery k := by
    unfold carrierParam
    cases k.control.recovery <;> rfl
  have mode : (if k.control.mode = .adaptive then (0 : Int) else 1) = carrierParam .adaptationMode k := by
    unfold carrierParam
    cases k.control.mode <;> rfl
  rw [Carrier.values, recovery, mode]
  rfl

theorem paramOf_unknown {code : Byte} (h : code = 0 ∨ 24 < code.toNat) : paramOf code = none := by
  rcases h with rfl | high
  · rfl
  · unfold paramOf
    split <;> first | rfl | omega

/-- GET of a carrier parameter. -/
theorem runGet_carrier {code : Byte} {p : Param} (h : paramOf code = some p) (carrier : deviceParam p = false) (b : Byte) (s : State) :
    runGet code b s = withCarrier b s (fun c => answer .ok (signed32 (carrierParam p (s.car c))) s) := by
  rw [runGet, h]
  exact getParam_carrier carrier b s

/-- What GET answers to one code, the reply kept. -/
theorem aloneAnswer_get_eq {s : State} (live : s.live) {code b : Byte} {r : Ran} (h : runGet code b s = r) :
    aloneAnswer (.get code b) s = .next (r.2.returned r.1) := by
  rw [aloneAnswer_get live, h]

/-- A SET of a carrier parameter that is taken is read back. -/
theorem runGet_setCarrierParam {code : Byte} {p : Param} (h : paramOf code = some p) (carrier : deviceParam p = false) {b : Byte}
    {v : BitVec 32} {s : State} (taken : (setCarrierParam p b v s).1.result.taken = true) :
    (setCarrierParam p b v s).1.data.length = 4 ∧
      runGet code b (setCarrierParam p b v s).2 = (⟨.ok, (setCarrierParam p b v s).1.data⟩, (setCarrierParam p b v s).2) := by
  rcases hb : carrierOf b with _ | c
  · rw [setCarrierParam, withCarrier_none hb] at taken
    cases taken
  · rw [runGet_carrier h carrier, withCarrier_some hb]
    simp only [setCarrierParam, withCarrier_some hb] at taken ⊢
    rcases hs : storeCarrierParam p (s.car c) v.toInt with _ | ⟨r, k⟩
    · rw [hs] at taken
      cases taken
    · exact ⟨rfl, by simp only [answer, State.car_setCar_same]⟩

/-- So is a SET of a parameter of the device. -/
theorem runGet_setDeviceParam {code : Byte} {p : Param} (h : paramOf code = some p) {b : Byte} {stored : Stored State} {read : State → Int}
    (get : ∀ t, getParam p b t = answer .ok (signed32 (read t)) t) {s : State}
    (taken : (setDeviceParam stored read s).1.result.taken = true) :
    (setDeviceParam stored read s).1.data.length = 4 ∧
      runGet code b (setDeviceParam stored read s).2 =
        (⟨.ok, (setDeviceParam stored read s).1.data⟩, (setDeviceParam stored read s).2) := by
  rcases stored with _ | ⟨r, t⟩
  · cases taken
  · rw [runGet, h]
    exact ⟨rfl, get t⟩

/-- Settles O12. -/
theorem getReturnsStoredValue : Obligations.GetReturnsStoredValue := by
  refine ⟨fun s code b live => ⟨fun r device => ?_, fun unknown => ?_, fun low high above => ?_, fun c v hb low value => ?_⟩,
    fun s code b p v named taken => ?_⟩
  · dsimp only at device
    split_ifs at device <;> cases device <;> subst code <;> exact aloneAnswer_get_eq live rfl
  · exact aloneAnswer_get_eq (r := refuse .unknown s) live (by rw [runGet, paramOf_unknown unknown])
  · obtain ⟨p, listed⟩ : ∃ p, carrierParams[code.toNat - 1]? = some p :=
      ⟨carrierParams[code.toNat - 1]'(show code.toNat - 1 < 19 by omega), List.getElem?_eq_getElem _⟩
    refine aloneAnswer_get_eq (r := refuse .range s) live ?_
    rw [runGet_carrier ((paramOf_carrier low high).trans listed) (carrierParams_carrier p (List.mem_of_getElem? listed)),
      withCarrier_none (carrierOf_of_large above)]
    rfl
  · have value : (s.car c).values[code.toNat - 1]? = some v := value
    rw [Carrier.values_eq, List.getElem?_map, Option.map_eq_some_iff] at value
    obtain ⟨p, listed, rfl⟩ := value
    have high : code.toNat ≤ 19 := by
      have : code.toNat - 1 < 19 := (List.getElem?_eq_some_iff.1 listed).1
      omega
    refine aloneAnswer_get_eq (r := answer .ok (signed32 (carrierParam p (s.car c))) s) live ?_
    rw [runGet_carrier ((paramOf_carrier low high).trans listed) (carrierParams_carrier p (List.mem_of_getElem? listed)),
      withCarrier_some (carrierOf_of_val hb)]
  · cases p
    case defaultClass | gapTime | lateRunLimit | managementTypeCode => exact runGet_setDeviceParam named (fun _ => rfl) taken
    case alertMask => exact ⟨rfl, by rw [runGet, named]; rfl⟩
    case txCeiling =>
      rcases hb : carrierOf b with _ | c
      · rw [runSet, setTxCeiling, withCarrier_none hb] at taken
        cases taken
      · simp only [runSet, setTxCeiling, withCarrier_some hb] at taken ⊢
        exact runGet_setCarrierParam named rfl taken
    all_goals exact runGet_setCarrierParam named rfl taken

end Sys2Proof.Machine
end


section
/-! PROOFS. The tables (R43, R60, R62, R109, R111, R113, R155, R176): what each write stores and each read returns, and O13, O15 to O18. -/

namespace Sys2Proof.Machine

/-! ### A command given alone -/

/-- A command whose data fits, from the rule's answer. -/
theorem aloneAnswer_run {s t : State} {x : Command} {r : Reply} (live : s.live) (fits : successLength x s ≤ 1492)
    (h : runCommand x s = (r, t)) : aloneAnswer x s = .next (t.returned r) := by
  rw [aloneAnswer_runs live fits, h]

theorem aloneAnswer_tooLong {s : State} {x : Command} (live : s.live) (long : 1492 < successLength x s) :
    aloneAnswer x s = .next (s.returned ⟨.tooLong, []⟩) := by
  rw [aloneAnswer_live live, State.runAlone_tooLong long]

/-- A write that fails one of three checks is refused alike by each. -/
theorem refused_of_check {α : Type} {p q r : Prop} [Decidable p] [Decidable q] [Decidable r] {a b : α} (h : p ∨ q ∨ r) :
    (if p then a else if q then a else if r then a else b) = a := by
  split_ifs with hp hq hr
  · rfl
  · rfl
  · rfl
  · exact absurd h (by simp only [hp, hq, hr, or_self, not_false_eq_true])

/-- The result of a write is CLAMPED exactly when some entry was. -/
theorem okOrClamped_any {α : Type} {l : List α} {p : α → Bool} {q : α → Prop} (h : ∀ e, p e = true ↔ q e) [Decidable (∃ e ∈ l, q e)] :
    okOrClamped (l.any p) = if ∃ e ∈ l, q e then .clamped else .ok := by
  have any : l.any p = decide (∃ e ∈ l, q e) := by
    rw [Bool.eq_iff_iff, List.any_eq_true, decide_eq_true_eq]
    simp only [h]
  rw [any, okOrClamped]
  simp only [decide_eq_true_eq]

/-- What a position holds after the values of a write were stored, a function of each value given. -/
theorem storeFrom_map_get {α β : Type} {n : Nat} (v : Vector β n) (start : Nat) (l : List α) (f : α → β) (i : Fin n) :
    (storeFrom v start (l.map f))[i] = match givenAt start l i.val with | some x => f x | none => v[i] := by
  rw [storeFrom_get, givenAt_map]
  cases givenAt start l i.val <;> rfl

theorem storeQuad_map_get {α : Type} (q : Quad Nat) (start : Nat) (l : List α) (f : α → Nat) (i : Fin 4) :
    (storeQuad q start (l.map f)).get i = match givenAt start l i.val with | some x => f x | none => q.get i := by
  rw [storeQuad_get, givenAt_map]
  cases givenAt start l i.val <;> rfl

/-! ### LADDER and CURVE -/

theorem ladderEntryClamped_iff (e : LadderEntryRaw) :
    ladderEntryClamped e = true ↔ 7 < e.rate.toNat ∨ 1023 < e.capacity.toNat ∨ 400 < e.enter.toNat ∨ 400 < e.hold.toNat := by
  simp only [ladderEntryClamped, Bool.or_eq_true, decide_eq_true_eq, or_assoc]

/-- A ladder after a write: its entries stored, and its code computed anew where an entry was given (R60, R63). -/
theorem Ladder.write_eq (l : Ladder) (start : Nat) (x : List LadderEntryRaw) :
    l.write start x =
      { l with
        entries := storeFrom l.entries start (x.map clampLadderEntry)
        code := if x = [] then l.code else ladderCode l.length (storeFrom l.entries start (x.map clampLadderEntry)).toList } := by
  cases x <;> rfl

/-- Settles O13. -/
theorem ladderWriteStoresEntries : Obligations.LadderWriteStoresEntries := by
  intro s c b start l live hb
  have ran : runCommand (.writeLadder b start l) s =
      if (s.car c).control.state ≠ .off then refuse .locked s
      else if 12 < start.toNat + l.length then refuse .range s
      else if l.any (fun e => decide (9 < e.modulation.toNat)) then refuse .range s
      else if l.any (fun e => decide (e.capacity.toNat < 1)) then refuse .range s
      else
        answer (okOrClamped (l.any ladderEntryClamped)) []
          (s.setCar c { s.car c with ladder := (s.car c).ladder.write start.toNat l }) := withCarrier_some (carrierOf_of_val hb) _ _
  have modulation : l.any (fun e => decide (9 < e.modulation.toNat)) = true ↔ ∃ e ∈ l, 9 < e.modulation.toNat := by
    simp only [List.any_eq_true, decide_eq_true_eq]
  have capacity : l.any (fun e => decide (e.capacity.toNat < 1)) = true ↔ ∃ e ∈ l, e.capacity.toNat = 0 := by
    simp only [List.any_eq_true, decide_eq_true_eq, Nat.lt_one_iff]
  refine ⟨fun on => aloneAnswer_run live (Nat.zero_le _) (ran.trans (if_pos on)), fun off refused => ?_, fun off passes => ?_⟩
  · refine aloneAnswer_run live (Nat.zero_le _) (ran.trans ((if_neg (fun on => on off)).trans ?_))
    simp only [modulation, capacity]
    exact refused_of_check refused
  · rw [not_or, not_or] at passes
    obtain ⟨within, low, positive⟩ := passes
    refine ⟨storeFrom (s.car c).ladder.entries start.toNat (l.map clampLadderEntry), fun i => ?_, ?_⟩
    · rw [storeFrom_map_get, givenAt]
      generalize (if start.toNat ≤ i.val then l[i.val - start.toNat]? else none) = given
      cases given <;> rfl
    refine aloneAnswer_run live (Nat.zero_le _) (ran.trans ((if_neg (fun on => on off)).trans ?_))
    rw [if_neg within, if_neg (modulation.not.2 low), if_neg (capacity.not.2 positive), okOrClamped_any ladderEntryClamped_iff,
      Ladder.write_eq]
    rfl

/-- Settles O15. -/
theorem curveWriteStoresPoints : Obligations.CurveWriteStoresPoints := by
  intro s c b start l live hb
  have ran : runCommand (.writeCurve b start l) s =
      if 17 < start.toNat + l.length then refuse .range s
      else
        answer (okOrClamped (l.any (fun v => decide (400 < v.toNat)))) []
          (s.setCar c
            { s.car c with
              est := { (s.car c).est with curve := storeFrom (s.car c).est.curve start.toNat (l.map (fun v => min v.toNat 400)) } }) :=
    withCarrier_some (carrierOf_of_val hb) _ _
  refine ⟨fun past => aloneAnswer_run live (Nat.zero_le _) (ran.trans (if_pos past)), fun within => ?_⟩
  refine ⟨storeFrom (s.car c).est.curve start.toNat (l.map (fun v => min v.toNat 400)), fun i => ?_, ?_⟩
  · rw [storeFrom_map_get, givenAt]
    generalize (if start.toNat ≤ i.val then l[i.val - start.toNat]? else none) = given
    cases given <;> rfl
  refine aloneAnswer_run live (Nat.zero_le _) (ran.trans ((if_neg (Nat.not_lt.2 within)).trans ?_))
  rw [okOrClamped_any (q := fun v : BitVec 16 => 400 < v.toNat) (fun v => decide_eq_true_iff)]
  rfl

/-! ### FLOW -/

theorem tagMatchOf_eq (b : Byte) :
    tagMatchOf b =
      if 2 < b.toNat then none else some (if b = 0 then .tagged else if b = 1 then .untagged else .any) := by
  have zero : b = 0 ↔ b.toNat = 0 := by rw [← BitVec.toNat_inj]; rfl
  have one : b = 1 ↔ b.toNat = 1 := by rw [← BitVec.toNat_inj]; rfl
  simp only [tagMatchOf, zero, one]
  generalize b.toNat = n
  match n with
  | 0 | 1 | 2 => rfl
  | n + 3 => simp

theorem actionOf_eq (b : Byte) : actionOf b = if 1 < b.toNat then none else some (if b = 0 then .cls else .drop) := by
  have zero : b = 0 ↔ b.toNat = 0 := by rw [← BitVec.toNat_inj]; rfl
  simp only [actionOf, zero]
  generalize b.toNat = n
  match n with
  | 0 | 1 => rfl
  | n + 2 => simp

theorem flowEntryClamped_iff (e : FlowEntryRaw) :
    flowEntryClamped e = true ↔
      4095 < e.vlanLow.toNat ∨ 4095 < e.vlanHigh.toNat ∨ 7 < e.prioLow.toNat ∨ 7 < e.prioHigh.toNat ∨ 3 < e.cls.toNat := by
  simp only [flowEntryClamped, Bool.or_eq_true, decide_eq_true_eq, or_assoc]

/-- Settles O16. -/
theorem flowWriteStoresEntries : Obligations.FlowWriteStoresEntries := by
  intro s start l live
  have ran : runCommand (.writeFlow start l) s =
      if 64 < start.toNat + l.length then refuse .range s
      else if l.any (fun e => (tagMatchOf e.tagMatch).isNone) then refuse .range s
      else if l.any (fun e => (actionOf e.action).isNone) then refuse .range s
      else
        answer (okOrClamped (l.any flowEntryClamped)) []
          { s with
            classifier :=
              { s.classifier with table := storeFrom s.classifier.table start.toNat (l.map clampFlowEntry) } } := rfl
  have tag : l.any (fun e => (tagMatchOf e.tagMatch).isNone) = true ↔ ∃ e ∈ l, 2 < e.tagMatch.toNat := by
    simp only [List.any_eq_true, tagMatchOf_eq, Option.isNone_iff_eq_none, ite_eq_left_iff, reduceCtorEq, imp_false, not_not]
  have action : l.any (fun e => (actionOf e.action).isNone) = true ↔ ∃ e ∈ l, 1 < e.action.toNat := by
    simp only [List.any_eq_true, actionOf_eq, Option.isNone_iff_eq_none, ite_eq_left_iff, reduceCtorEq, imp_false, not_not]
  refine ⟨fun refused => ?_, fun passes => ?_⟩
  · refine aloneAnswer_run live (Nat.zero_le _) (ran.trans ?_)
    simp only [tag, action]
    exact refused_of_check refused
  · rw [not_or, not_or] at passes
    obtain ⟨within, tags, actions⟩ := passes
    refine ⟨storeFrom s.classifier.table start.toNat (l.map clampFlowEntry), fun i => ?_, ?_⟩
    · rw [storeFrom_map_get]
      show match givenAt start.toNat l i.val with | some e => _ | none => _
      rcases given : givenAt start.toNat l i.val with _ | e
      · rfl
      · have listed : e ∈ l := by
          unfold givenAt at given
          split at given
          · exact List.mem_of_getElem? given
          · cases given
        have knownTag : ¬ 2 < e.tagMatch.toNat := fun high => tags ⟨e, listed, high⟩
        have knownAction : ¬ 1 < e.action.toNat := fun high => actions ⟨e, listed, high⟩
        refine ⟨rfl, ?_, rfl, rfl, rfl, rfl, ?_, ?_, rfl⟩
        · show (tagMatchOf e.tagMatch).getD .tagged = _
          rw [tagMatchOf_eq, if_neg knownTag]
          rfl
        · show (actionOf e.action).getD .cls = _
          rw [actionOf_eq, if_neg knownAction]
          rfl
        · show min e.cls.toNat 3 % 4 = _
          omega
    · refine aloneAnswer_run live (Nat.zero_le _) (ran.trans ?_)
      rw [if_neg within, if_neg (tag.not.2 tags), if_neg (action.not.2 actions), okOrClamped_any flowEntryClamped_iff]
      rfl

/-! ### SHED and CLASS_LIMIT -/

theorem shedClamped_positions {start : Nat} {l : List (BitVec 16)} (fits : start + l.length ≤ 4) :
    shedClamped start l = true ↔
      ∃ i : Fin 4, ∃ v, start ≤ i.val ∧ l[i.val - start]? = some v ∧ (if i = 0 then 255 else 4092) < v.toNat := by
  rw [shedClamped_iff]
  have limit : ∀ i : Fin 4, shedLimit i.val = if i = 0 then 255 else 4092 := shedLimit_val
  constructor
  · rintro ⟨i, v, given, above⟩
    unfold givenAt at given
    split at given
    · rename_i from_start
      have inside := (List.getElem?_eq_some_iff.1 given).1
      exact ⟨⟨i, by omega⟩, v, from_start, given, by rw [← limit]; exact above⟩
    · cases given
  · rintro ⟨i, v, from_start, given, above⟩
    exact ⟨i.val, v, by rw [givenAt, if_pos from_start]; exact given, by rw [limit]; exact above⟩

/-- Settles O17. -/
theorem shedTableAndClassLimitWrites : Obligations.ShedTableAndClassLimitWrites := by
  refine ⟨fun s start l live => ⟨fun past => ?_, fun within => ?_⟩, fun s start l live => ⟨fun past => ?_, fun within => ?_⟩⟩
  · exact aloneAnswer_run live (Nat.zero_le _) (if_pos past : runWriteShed start l s = _)
  · refine ⟨storeQuad s.admission.shedTable start.toNat (clampShed start.toNat l), fun i => ?_, ?_⟩
    · rw [storeQuad_get, clampShed_given, shedLimit_val]
      show _ = match givenAt start.toNat l i.val with | some v => _ | none => _
      cases givenAt start.toNat l i.val <;> rfl
    · refine aloneAnswer_run live (Nat.zero_le _) ((if_neg (Nat.not_lt.2 within) : runWriteShed start l s = _).trans ?_)
      have clamped : okOrClamped (shedClamped start.toNat l) = if ∃ i : Fin 4, ∃ v, start.toNat ≤ i.val ∧
          l[i.val - start.toNat]? = some v ∧ (if i = 0 then 255 else 4092) < v.toNat then .clamped else .ok := by
        simp only [okOrClamped, shedClamped_positions within]
      rw [clamped]
      cases l <;> rfl
  · exact aloneAnswer_run live (Nat.zero_le _) (if_pos past : runWriteClassLimit start l s = _)
  · refine ⟨storeQuad s.admission.limits start.toNat (l.map (fun v => min v.toNat 16384)), fun i => ?_, ?_⟩
    · rw [storeQuad_map_get, givenAt]
      generalize (if start.toNat ≤ i.val then l[i.val - start.toNat]? else none) = given
      cases given <;> rfl
    refine aloneAnswer_run live (Nat.zero_le _) ((if_neg (Nat.not_lt.2 within) : runWriteClassLimit start l s = _).trans ?_)
    rw [okOrClamped_any (q := fun v : BitVec 16 => Config.bufferSlots < v.toNat) (fun v => decide_eq_true_iff)]
    rfl

/-! ### TABLE_READ -/

/-- The widths by table code, as a list. -/
theorem readWidth_eq (t : Nat) : [0, 8, 1, 2, 14, 2, 2, 12].getD t 0 = readWidth t := by
  match t with
  | 0 | 1 | 2 | 3 | 4 | 5 | 6 | 7 => rfl
  | t + 8 => rfl

/-- What check 3 measures of a read: the width for each position, 4 bytes fewer with the last position of TEST_RESULTS. -/
theorem successLength_tableRead (t b start n : Byte) (s : State) :
    successLength (.tableRead t b start n) s ≤ readWidth t.toNat * n.toNat ∧
      (1492 < readWidth t.toNat * n.toNat → 1492 < successLength (.tableRead t b start n) s) := by
  by_cases last : t.toNat = 7 ∧ start.toNat ≤ 12 ∧ 12 < start.toNat + n.toNat
  · rw [successLength, if_pos last]
    have width : readWidth t.toNat = 12 := by rw [last.1]; rfl
    rw [width]
    omega
  · rw [successLength, if_neg last]
    exact ⟨Nat.sub_le _ _, id⟩

/-- A read refused by its own rule answers TOO_LONG where the check before it measures too much. -/
theorem aloneAnswer_tableRead_refused {s : State} (live : s.live) {t b start n : Byte}
    (range : runTableRead t b start n s = refuse .range s) :
    aloneAnswer (.tableRead t b start n) s =
      .next (s.returned ⟨if readWidth t.toNat * n.toNat ≤ 1492 then .range else .tooLong, []⟩) := by
  obtain ⟨most, long⟩ := successLength_tableRead t b start n s
  by_cases fits : readWidth t.toNat * n.toNat ≤ 1492
  · rw [if_pos fits]
    exact aloneAnswer_run live (most.trans fits) range
  · rw [if_neg fits]
    exact aloneAnswer_tooLong live (long (Nat.lt_of_not_le fits))

/-- A read of a table that fits a response whole. -/
theorem aloneAnswer_tableRead {s : State} (live : s.live) {t b start n : Byte} {l : List (List Byte)}
    (small : readWidth t.toNat * l.length ≤ 1492) (h : runTableRead t b start n s = readPositions l start n s) :
    (l.length < start.toNat + n.toNat → aloneAnswer (.tableRead t b start n) s =
        .next (s.returned ⟨if readWidth t.toNat * n.toNat ≤ 1492 then .range else .tooLong, []⟩)) ∧
      (start.toNat + n.toNat ≤ l.length → aloneAnswer (.tableRead t b start n) s =
        .next (s.returned ⟨.ok, ((l.drop start.toNat).take n.toNat).flatten⟩)) := by
  refine ⟨fun past => aloneAnswer_tableRead_refused live (h.trans (if_pos past)), fun within => ?_⟩
  have few : readWidth t.toNat * n.toNat ≤ readWidth t.toNat * l.length := Nat.mul_le_mul_left _ (by omega)
  exact aloneAnswer_run live ((successLength_tableRead t b start n s).1.trans (few.trans small))
    (h.trans (if_neg (Nat.not_lt.2 within)))

theorem runTableRead_device {t : Byte} (low : 4 ≤ t.toNat) (high : t.toNat ≤ 6) (b start n : Byte) (s : State) :
    runTableRead t b start n s = readPositions (deviceTable t.toNat s) start n s := by
  have known : readWidth t.toNat ≠ 0 := by
    generalize t.toNat = m at low high
    interval_cases m <;> decide
  rw [runTableRead, if_neg known, if_pos ⟨low, high⟩]

theorem runTableRead_carrier {t : Byte} (known : readWidth t.toNat ≠ 0) (not : ¬ (4 ≤ t.toNat ∧ t.toNat ≤ 6)) (b start n : Byte)
    (s : State) :
    runTableRead t b start n s = withCarrier b s (fun c => readPositions (carrierTable t.toNat (s.car c)) start n s) := by
  rw [runTableRead, if_neg known, if_neg not]

/-- The bytes of a FLOW entry, with its codes spelled out. -/
theorem flowEntryBytes_eq (e : FlowEntry) :
    byteOf (if e.valid then 1 else 0) ++ byteOf (match e.tagMatch with | .tagged => 0 | .untagged => 1 | .any => 2) ++
          be16 e.vlanLow ++ be16 e.vlanHigh ++ byteOf e.prioLow ++ byteOf e.prioHigh ++
          byteOf (if e.action = .cls then 0 else 1) ++ byteOf e.cls.val ++ be32 e.hits = flowEntryBytes e := by
  obtain ⟨valid, tag, vl, vh, pl, ph, action, cls, hits⟩ := e
  cases valid <;> cases tag <;> cases action <;> rfl

/-- Settles O18. -/
theorem tableReadReturnsEntries : Obligations.TableReadReturnsEntries := by
  intro s t b start n live
  dsimp only
  rw [readWidth_eq]
  refine ⟨fun unknown => ?_, fun l listed => ?_, fun c l hb listed => ?_, fun above named => ?_⟩
  · have width : readWidth t.toNat = 0 := by
      rcases unknown with rfl | high
      · rfl
      · obtain ⟨m, hm⟩ := Nat.exists_eq_add_of_le' high
        rw [hm]
        rfl
    refine aloneAnswer_run live ?_ (if_pos width : runTableRead t b start n s = refuse .unknown s)
    exact (successLength_tableRead t b start n s).1.trans (by rw [width, Nat.zero_mul]; exact Nat.zero_le _)
  · simp only [List.mem_cons, Prod.mk.injEq, List.not_mem_nil, or_false] at listed
    have table : l = deviceTable t.toNat s ∧ 4 ≤ t.toNat ∧ t.toNat ≤ 6 ∧ readWidth t.toNat * l.length ≤ 1492 := by
      rcases listed with ⟨ht, rfl⟩ | ⟨ht, rfl⟩ | ⟨ht, rfl⟩
      · rw [ht]; exact ⟨List.map_congr_left fun e _ => flowEntryBytes_eq e, by decide, by decide, by simp [readWidth]⟩
      · rw [ht]; exact ⟨rfl, by decide, by decide, by simp [readWidth, Quad.toList]⟩
      · rw [ht]; exact ⟨rfl, by decide, by decide, by simp [readWidth, Quad.toList]⟩
    obtain ⟨rfl, low, high, small⟩ := table
    exact aloneAnswer_tableRead live small (runTableRead_device low high b start n s)
  · simp only [List.mem_cons, Prod.mk.injEq, List.not_mem_nil, or_false] at listed
    have table : l = carrierTable t.toNat (s.car c) ∧ readWidth t.toNat ≠ 0 ∧ ¬ (4 ≤ t.toNat ∧ t.toNat ≤ 6) ∧
        readWidth t.toNat * l.length ≤ 1492 := by
      rcases listed with ⟨ht, rfl⟩ | ⟨ht, rfl⟩ | ⟨ht, rfl⟩ | ⟨ht, rfl⟩
      · rw [ht]; exact ⟨rfl, by decide, by decide, by simp [readWidth]⟩
      · rw [ht]; exact ⟨rfl, by decide, by decide, by simp [readWidth]⟩
      · rw [ht]; exact ⟨rfl, by decide, by decide, by simp [readWidth]⟩
      · rw [ht]; exact ⟨rfl, by decide, by decide, by simp [readWidth]⟩
    obtain ⟨rfl, known, not, small⟩ := table
    exact aloneAnswer_tableRead live small
      ((runTableRead_carrier known not b start n s).trans (withCarrier_some (carrierOf_of_val hb) _ _))
  · have table : readWidth t.toNat ≠ 0 ∧ ¬ (4 ≤ t.toNat ∧ t.toNat ≤ 6) := by
      rcases named with rfl | rfl | rfl | rfl <;> decide
    obtain ⟨known, not⟩ := table
    exact aloneAnswer_tableRead_refused live
      ((runTableRead_carrier known not b start n s).trans (withCarrier_none (carrierOf_of_large above) _ _))

end Sys2Proof.Machine
end


section
/-! PROOFS. The CARRIER actions, SWEEP, CAPTURE, the ALERT line and the traffic reset (O20, O23 to O28, O30, O32). -/

namespace Sys2Proof.Machine

/-! ### ENABLE and the validation of the ladder (R64) -/

/-- The four conditions on the entries of a ladder that checks 2 to 5 look at. -/
def Ladder.capacityRises (l : Ladder) (k : Nat) : Bool :=
  if k = 0 then decide (1 ≤ (l.at 0).capacity) else decide ((l.at (k - 1)).capacity < (l.at k).capacity)

def Ladder.enterRises (l : Ladder) (k : Nat) : Bool := decide ((l.at (k - 1)).enter < (l.at k).enter)

def Ladder.holdRises (l : Ladder) (k : Nat) : Bool := decide ((l.at (k - 1)).hold ≤ (l.at k).hold)

def Ladder.holdBelowEnter (l : Ladder) (k : Nat) : Bool := decide ((l.at k).hold + 4 ≤ (l.at k).enter)

/-- The checks of a ladder that holds an entry: the first that fails, with its index. -/
theorem Ladder.validate_eq {l : Ladder} (h : 1 ≤ l.length) :
    l.validate =
      match firstFailure l.capacityRises l.length 0 with
      | some k => some (2, k)
      | none =>
        match firstFailure l.enterRises (l.length - 2) 2 with
        | some k => some (3, k)
        | none =>
          match firstFailure l.holdRises (l.length - 2) 2 with
          | some k => some (4, k)
          | none =>
            match firstFailure l.holdBelowEnter (l.length - 1) 1 with
            | some k => some (5, k)
            | none => none := by
  rw [Ladder.validate, if_neg (Nat.not_lt.2 h)]
  rfl

section
variable {ok : Nat → Bool} {n a : Nat} {fails : Nat → Prop} (h : ∀ j, fails j ↔ a ≤ j ∧ j < a + n ∧ ok j = false)
include h

/-- A search over the indices of a check finds nothing where none fails. -/
theorem firstFailure_of_passes (passes : ∀ j, ¬ fails j) : firstFailure ok n a = none := by
  refine firstFailure_none ok n a fun j low high => ?_
  by_contra bad
  exact passes j ((h j).2 ⟨low, high, by simpa using bad⟩)

/-- It finds the lowest index that fails. -/
theorem firstFailure_of_fails {k : Nat} (failed : fails k) (lowest : ∀ j, j < k → ¬ fails j) : firstFailure ok n a = some k := by
  obtain ⟨low, high, bad⟩ := (h k).1 failed
  refine firstFailure_some ok n a k low high bad fun j from_a below => ?_
  by_contra worse
  exact lowest j below ((h j).2 ⟨from_a, by omega, by simpa using worse⟩)

end

theorem runEnable_length (b : Byte) (s : State) : (runEnable b s).1.data.length ≤ 2 := by
  refine withCarrier_length fun c => ?_
  dsimp only
  split
  · exact Nat.zero_le _
  · split
    · exact Nat.le_refl _
    · exact Nat.zero_le _

/-- ENABLE given alone, from its own rule. -/
theorem aloneAnswer_enable {s t : State} {b : Byte} {r : Reply} (live : s.live) (h : runEnable b s = (r, t)) :
    aloneAnswer (.enable b) s = .next (t.returned r) :=
  aloneAnswer_run live ((runEnable_length b s).trans (by decide)) h

theorem runEnable_off {s : State} {b : Byte} {c : CarrierId} (hb : b.toNat = c.val) (off : (s.car c).control.state = .off) :
    runEnable b s =
      match (s.car c).ladder.validate with
      | some (check, index) => answer .ladder (byteOf check ++ byteOf index) s
      | none => answer .ok [] ((s.setCar c (s.car c).enabled).signalContribution c) :=
  (withCarrier_some (carrierOf_of_val hb) _ _).trans (if_neg fun on => on off)

/-- Settles O20: each search of the validation runs over the indices of its check. -/
theorem ladderValidation : Obligations.LadderValidation := by
  intro s c b live hb off l fails
  have capacity : ∀ j, fails 2 j ↔ 0 ≤ j ∧ j < 0 + l.length ∧ l.capacityRises j = false := fun j => by
    show (j < l.length ∧ if j = 0 then (l.at 0).capacity < 1 else (l.at j).capacity ≤ (l.at (j - 1)).capacity) ↔ _
    unfold Ladder.capacityRises
    split
    · rename_i zero
      subst zero
      simp only [decide_eq_false_iff_not]
      omega
    · simp only [decide_eq_false_iff_not]
      omega
  have enter : ∀ j, fails 3 j ↔ 2 ≤ j ∧ j < 2 + (l.length - 2) ∧ l.enterRises j = false := fun j => by
    show (2 ≤ j ∧ j < l.length ∧ (l.at j).enter ≤ (l.at (j - 1)).enter) ↔ _
    simp only [Ladder.enterRises, decide_eq_false_iff_not]
    omega
  have hold : ∀ j, fails 4 j ↔ 2 ≤ j ∧ j < 2 + (l.length - 2) ∧ l.holdRises j = false := fun j => by
    show (2 ≤ j ∧ j < l.length ∧ (l.at j).hold < (l.at (j - 1)).hold) ↔ _
    simp only [Ladder.holdRises, decide_eq_false_iff_not]
    omega
  have below : ∀ j, fails 5 j ↔ 1 ≤ j ∧ j < 1 + (l.length - 1) ∧ l.holdBelowEnter j = false := fun j => by
    show (1 ≤ j ∧ j < l.length ∧ (l.at j).enter < (l.at j).hold + 4) ↔ _
    simp only [Ladder.holdBelowEnter, decide_eq_false_iff_not]
    omega
  have refused : ∀ check index, l.validate = some (check, index) →
      exec (.carrierEnable b) s = .next (s.returned ⟨.ladder, [BitVec.ofNat 8 check, BitVec.ofNat 8 index]⟩) := fun check index h =>
    aloneAnswer_enable live (by rw [runEnable_off hb off]; simp only [l] at h; rw [h]; rfl)
  refine ⟨fun empty => refused 1 0 (Ladder.validate_of_empty empty), fun check k some low high before failed lowest => ?_, fun some passes => ?_⟩
  · refine refused check k ?_
    rw [Ladder.validate_eq some]
    have passed : ∀ x, 2 ≤ x → x < check → ∀ j, ¬ fails x j := before
    interval_cases check
    · rw [firstFailure_of_fails capacity failed lowest]
    · rw [firstFailure_of_passes capacity (passed 2 (by decide) (by decide)), firstFailure_of_fails enter failed lowest]
    · rw [firstFailure_of_passes capacity (passed 2 (by decide) (by decide)),
        firstFailure_of_passes enter (passed 3 (by decide) (by decide)), firstFailure_of_fails hold failed lowest]
    · rw [firstFailure_of_passes capacity (passed 2 (by decide) (by decide)),
        firstFailure_of_passes enter (passed 3 (by decide) (by decide)),
        firstFailure_of_passes hold (passed 4 (by decide) (by decide)), firstFailure_of_fails below failed lowest]
  · have valid : l.validate = none := by
      rw [Ladder.validate_eq some, firstFailure_of_passes capacity (passes 2 (by decide) (by decide)),
        firstFailure_of_passes enter (passes 3 (by decide) (by decide)),
        firstFailure_of_passes hold (passes 4 (by decide) (by decide)), firstFailure_of_passes below (passes 5 (by decide) (by decide))]
    have enabled : (((s.setCar c (s.car c).enabled).signalContribution c).returned ⟨.ok, []⟩).car c = (s.car c).enabled := by
      rw [State.car_returned, State.car_congr (State.signalContribution_carriers _ _), State.car_setCar_same]
    refine ⟨_, aloneAnswer_enable live (by rw [runEnable_off hb off]; simp only [l] at valid; rw [valid]; rfl), ?_, ?_, rfl⟩
    · rw [enabled]; rfl
    · rw [enabled]; rfl

/-! ### TEST_ENTER, TEST_LEAVE, CLEAR_HOLD and the refusals -/

/-- Settles O23. -/
theorem testAndHoldActions : Obligations.TestAndHoldActions := by
  intro s₀ c b live hb
  refine ⟨fun p on other => ?_, fun test => ?_, fun hold => ?_⟩
  · have taken : ¬ ((s₀.car c).control.state = .off ∨ (s₀.car c).control.state = .test) := not_or.2 ⟨on, other⟩
    refine aloneAnswer_run live (show 1 ≤ 1492 by decide) (((withCarrier_some (carrierOf_of_val hb) _ _).trans (if_neg taken)).trans ?_)
    dsimp only
    rw [okOrClamped_above]
    rfl
  · exact aloneAnswer_run live (Nat.zero_le _) ((withCarrier_some (carrierOf_of_val hb) _ _).trans (if_pos test))
  · exact aloneAnswer_run live (Nat.zero_le _) ((withCarrier_some (carrierOf_of_val hb) _ _).trans (if_pos hold))

/-- The trigger that a trigger code from 1 to 5 names, in the order of section 13.3. -/
theorem triggerOf_eq {t : Byte} (h : t ≠ 0) : triggerOf t = [Trigger.immediate, .anyDownshift, .urgent, .fallback, .mismatch][t.toNat - 1]? := by
  have positive : t.toNat ≠ 0 := fun zero => h (BitVec.eq_of_toNat_eq zero)
  unfold triggerOf
  generalize t.toNat = n at positive
  match n, positive with
  | 1, _ | 2, _ | 3, _ | 4, _ | 5, _ => rfl
  | n + 6, _ => rfl

/-- Settles O24. -/
theorem actionsRefusedByState : Obligations.ActionsRefusedByState := by
  intro s c b live hb
  refine ⟨fun on => ?_, fun off => ?_, fun other p => ?_, fun other => ⟨?_, fun p d => ?_⟩, fun other => ?_, fun off t post low high => ?_⟩
  · exact aloneAnswer_enable live ((withCarrier_some (carrierOf_of_val hb) _ _).trans (if_pos on))
  · exact aloneAnswer_run live (Nat.zero_le _) ((withCarrier_some (carrierOf_of_val hb) _ _).trans (if_pos off))
  · exact aloneAnswer_run live (show 1 ≤ 1492 by decide) ((withCarrier_some (carrierOf_of_val hb) _ _).trans (if_pos other))
  · exact aloneAnswer_run live (Nat.zero_le _) ((withCarrier_some (carrierOf_of_val hb) _ _).trans (if_neg other))
  · exact aloneAnswer_run live (show 3 ≤ 1492 by decide) ((withCarrier_some (carrierOf_of_val hb) _ _).trans (if_neg other))
  · exact aloneAnswer_run live (Nat.zero_le _) ((withCarrier_some (carrierOf_of_val hb) _ _).trans (if_neg other))
  · have known : t ≠ 0 := by rintro rfl; exact absurd low (by decide)
    have inside : t.toNat - 1 < [Trigger.immediate, .anyDownshift, .urgent, .fallback, .mismatch].length :=
      show t.toNat - 1 < 5 by omega
    refine aloneAnswer_run live (Nat.zero_le _) ((withCarrier_some (carrierOf_of_val hb) _ _).trans ?_)
    rw [triggerOf_eq known, List.getElem?_eq_getElem inside]
    exact if_pos off

/-! ### A carrier number above 3 -/

/-- Settles O25: every rule of a carrier looks its carrier up first. -/
theorem carrierNumberRefused : Obligations.CarrierNumberRefused := by
  intro s b live above
  have none : ∀ f : CarrierId → Ran, withCarrier b s f = (⟨.range, []⟩, s) := withCarrier_none (carrierOf_of_large above) s
  have set : ∀ p v, deviceParam p = false → aloneAnswer (.set p b v) s = .next (s.returned ⟨.range, []⟩) := fun p v carrier => by
    have refused : runSet p b v s = (⟨.range, []⟩, s) := by
      cases p
      case defaultClass | gapTime | lateRunLimit | managementTypeCode | alertMask => cases carrier
      all_goals exact none _
    exact aloneAnswer_run live (show 4 ≤ 1492 by decide) refused
  refine ⟨⟨aloneAnswer_enable live (none _), aloneAnswer_run live (Nat.zero_le _) (none _), aloneAnswer_run live (Nat.zero_le _) (none _),
      aloneAnswer_run live (Nat.zero_le _) (none _), aloneAnswer_run live (Nat.zero_le _) (none _)⟩,
    fun p => aloneAnswer_run live (show 1 ≤ 1492 by decide) (none _), fun p d => aloneAnswer_run live (show 3 ≤ 1492 by decide) (none _),
    fun t post => aloneAnswer_run live (Nat.zero_le _) (none _), fun p l => aloneAnswer_run live (Nat.zero_le _) (none _),
    fun p l => aloneAnswer_run live (Nat.zero_le _) (none _), fun p l => aloneAnswer_run live (Nat.zero_le _) (none _), fun v => ?_⟩
  exact ⟨set _ v rfl, set _ v rfl, set _ v rfl, set _ v rfl, set _ v rfl, set _ v rfl, set _ v rfl, set _ v rfl, set _ v rfl, set _ v rfl,
    set _ v rfl, set _ v rfl, set _ v rfl, set _ v rfl, set _ v rfl, set _ v rfl, set _ v rfl, set _ v rfl, set _ v rfl⟩

/-! ### SWEEP and CAPTURE -/

/-- Settles O26. -/
theorem sweepStarts : Obligations.SweepStarts := by
  intro s c b start dwell live hb test
  refine aloneAnswer_run live (show 3 ≤ 1492 by decide) (((withCarrier_some (carrierOf_of_val hb) _ _).trans (if_pos test)).trans ?_)
  have result : okOrClamped (decide ((s.car c).txCeil < start.toNat) || decide (dwell = some 0)) =
      if start.toNat ≤ min (s.car c).control.txCeiling ((s.car c).ladder.length - 1) ∧ dwell ≠ some 0 then .ok else .clamped := by
    show okOrClamped (decide (min (s.car c).control.txCeiling ((s.car c).ladder.length - 1) < start.toNat) || decide (dwell = some 0)) = _
    generalize min (s.car c).control.txCeiling ((s.car c).ladder.length - 1) = top
    by_cases within : start.toNat ≤ top
    · by_cases zero : dwell = some 0
      · simp only [okOrClamped, zero, decide_true, Bool.or_true, if_true, ne_eq, not_true_eq_false, and_false, if_false]
      · simp only [okOrClamped, zero, within, Nat.not_lt.2 within, decide_false, Bool.or_false, Bool.false_eq_true, if_false, ne_eq,
          not_false_eq_true, and_self, if_true]
    · simp only [okOrClamped, within, Nat.lt_of_not_le within, decide_true, Bool.true_or, if_true, false_and, if_false]
  dsimp only
  rw [result]
  cases dwell <;> rfl

/-- Settles O27. -/
theorem captureArmAndCancel : Obligations.CaptureArmAndCancel := by
  refine ⟨fun s c b t post live hb => ⟨fun unknown => ?_, fun tr on listed known => ?_⟩, fun s live => aloneAnswer_run live (Nat.zero_le _) rfl⟩
  · have none : triggerOf t = none := by
      rcases unknown with rfl | high
      · rfl
      · have positive : t ≠ 0 := by rintro rfl; exact absurd high (by decide)
        rw [triggerOf_eq positive, List.getElem?_eq_none]
        exact show 5 ≤ t.toNat - 1 by omega
    refine aloneAnswer_run live (Nat.zero_le _) ((withCarrier_some (carrierOf_of_val hb) _ _).trans ?_)
    rw [none]
    rfl
  · refine aloneAnswer_run live (Nat.zero_le _) ((withCarrier_some (carrierOf_of_val hb) _ _).trans ?_)
    rw [triggerOf_eq known, listed]
    refine (if_neg on).trans ?_
    rw [okOrClamped_above]
    rfl

/-- Settles O28. -/
theorem captureReadReturnsRing : Obligations.CaptureReadReturnsRing := by
  intro s off n live
  have fits : successLength (.captureRead off n) s ≤ 1492 := by
    show 3 + 16 * min n.toNat 32 ≤ 1492
    omega
  have ran : runCommand (.captureRead off n) s =
      if s.history.state ≠ .done then refuse .busy s
      else if 511 < off.toNat then refuse .range s
      else
        answer (okOrClamped (decide (32 < n.toNat)))
          (byteOf (causeCode s.history.cause) ++ be16 s.history.postRecords ++
            (List.range (min n.toNat 32)).flatMap (fun i => positionBytes s.history.ring (off.toNat + i))) s := rfl
  refine ⟨fun other => ?_, fun done far => ?_, fun done near => ?_, fun first r => ⟨recordBytes_length first r, ?_⟩⟩
  · exact aloneAnswer_run live fits (ran.trans (if_pos other))
  · exact aloneAnswer_run live fits (ran.trans ((if_neg fun other => other done).trans (if_pos far)))
  · refine aloneAnswer_run live fits (ran.trans ((if_neg fun other => other done).trans ((if_neg (Nat.not_lt.2 near)).trans ?_)))
    rw [okOrClamped_above, List.flatMap_def]
    cases s.history.cause <;> rfl
  · obtain ⟨fn, x, sample, level, slope, quality, inbound, issued, answerTaken, completed, mismatch, fallback, outOfOrder, trigger⟩ := r
    have head : byteOf (128 + markBit first 6) = byteOf (if first then 0xC0 else 0x80) := by cases first <;> rfl
    have number : fnBytes fn = be16 (match fn with | some n => n.toNat | none => 0xFFFF) := by cases fn <;> rfl
    have request : issuedByte issued =
        byteOf (match issued with | some q => (if q.kind = .step then 16 else 32) + q.target | none => 0) := by
      rcases issued with _ | ⟨kind, target⟩
      · rfl
      · cases kind <;> rfl
    simp only [recordBytes, head, number, request]
    rfl

/-! ### The ALERT line (R180, R182) -/

/-- The latch at a bit (section 13.3). -/
def latchAt (n : Nat) : Latch :=
  if n < 16 then
    match n % 4 with
    | 0 => .urgent (Fin.ofNat 4 (n / 4))
    | 1 => .fallback (Fin.ofNat 4 (n / 4))
    | 2 => .mismatch (Fin.ofNat 4 (n / 4))
    | _ => .ladderMismatch (Fin.ofNat 4 (n / 4))
  else
    match n with
    | 16 => .shed
    | 17 => .reseqLoss
    | 18 => .sweepDone
    | 19 => .captureDone
    | _ => .mgmtDrop

theorem latchAt_bit : ∀ n : Fin 21, (latchAt n.val).bit = n.val := by decide

/-- Settles O30: some bit is set in the latches and in the mask, and every bit is a latch's. -/
theorem alertLineFollowsLatches : Obligations.AlertLineFollowsLatches := by
  refine fun s => ⟨⟨fun asserted => ?_, fun ⟨l, latched, enabled⟩ => ?_⟩, fun l m => s.alert.isSet_raise l m⟩
  · have differs : s.alert.latches &&& s.alert.mask ≠ 0#21 := of_decide_eq_true asserted
    by_contra none
    refine differs (BitVec.eq_of_getLsbD_eq fun i hi => ?_)
    rw [BitVec.getLsbD_and, BitVec.getLsbD_zero]
    by_contra bit
    have both : s.alert.latches.getLsbD i = true ∧ s.alert.mask.getLsbD i = true := by simpa using bit
    obtain ⟨latched, enabled⟩ := both
    have at_i : (latchAt i).bit = i := latchAt_bit ⟨i, hi⟩
    exact none ⟨latchAt i, by rw [Alert.isSet, at_i]; exact latched, by rw [at_i]; exact enabled⟩
  · refine decide_eq_true fun zero => ?_
    have bit : (s.alert.latches &&& s.alert.mask).getLsbD l.bit = true := by
      rw [BitVec.getLsbD_and, enabled, Bool.and_true]
      exact latched
    rw [zero, BitVec.getLsbD_zero] at bit
    cases bit

/-! ### The traffic reset -/

/-- Settles O32. -/
theorem trafficResetEmptiesTraffic : Obligations.TrafficResetEmptiesTraffic := by
  intro s₀ live
  refine ⟨s₀.completeFill.admission.counters.map ClassCounters.trafficReset,
    s₀.completeFill.classifier.table.map (fun e => { e with hits := 0 }), fun k => ?_, fun i => ?_,
    aloneAnswer_run live (Nat.zero_le _) rfl⟩
  · rw [Quad.get_map]
    rfl
  · simp only [Fin.getElem_fin, Vector.getElem_map]

end Sys2Proof.Machine
end

section
/-! PROOFS. Chapter 6 (O33, O35, O36): ingress checks and diversion, Class Admission, the shed evaluation and the contribution signal. -/

namespace Sys2Proof.Machine

/-! ### Ingress -/

theorem fcsGood_iff (f : Frame) : fcsGood f = true ↔ 4 ≤ f.length ∧ f.drop (f.length - 4) = fcsBytes (f.take (f.length - 4)) := by
  rw [fcsGood, Bool.and_eq_true, decide_eq_true_iff, decide_eq_true_iff]

theorem Agent.recognises_iff (a : Agent) (f : Frame) :
    a.recognises f = true ↔
      14 ≤ f.length ∧ word16 (byteAt f 12) (byteAt f 13) = a.typeCode ∧
        (f.take 6 = a.address ∨ f.take 6 = Config.broadcast) := by
  simp only [Agent.recognises, Bool.and_eq_true, Bool.or_eq_true, decide_eq_true_iff, and_assoc]

section
variable {s : State} {f : Frame}

theorem exec_ingressFrameArrival_whole (hs : s.live) : exec (.ingressFrameArrival ⟨f, true⟩) s = .next (s.ingress f) :=
  State.unlessHeld_live hs _

theorem State.ingress_of_badFcs (h : ¬ fcsGood f = true) :
    s.ingress f = { s with site := { s.site with fcsErrors := bump s.site.fcsErrors } } := by
  simp [State.ingress, h]

theorem State.ingress_of_short (h : fcsGood f = true) (short : f.length < 64) :
    s.ingress f = { s with site := { s.site with shortFrames := bump s.site.shortFrames } } := by
  simp [State.ingress, h, show f.length < Config.minFrame from short]

theorem State.ingress_of_long (h : fcsGood f = true) (long : 9600 < f.length) :
    s.ingress f = { s with site := { s.site with longFrames := bump s.site.longFrames } } := by
  have notShort : ¬ f.length < Config.minFrame := Nat.not_lt.2 (Nat.le_trans (by decide) (Nat.le_of_lt long))
  simp [State.ingress, h, notShort, show Config.maxFrame < f.length from long]

theorem State.ingress_of_passed (h : fcsGood f = true) (hmin : 64 ≤ f.length) (hmax : f.length ≤ 9600) :
    s.ingress f = s.acceptIngress f := by
  have notShort : ¬ f.length < Config.minFrame := Nat.not_lt.2 hmin
  have notLong : ¬ Config.maxFrame < f.length := Nat.not_lt.2 hmax
  simp [State.ingress, h, notShort, notLong]

/-- A frame for the Agent that passed the checks is counted as accepted and as diverted, and goes to the input queue. -/
theorem State.acceptIngress_of_recognised (h : s.agent.recognises f = true) :
    s.acceptIngress f =
      { s with site := { s.site with accepted := bump s.site.accepted, diverted := bump s.site.diverted } }.enqueue .site f :=
  if_pos h

theorem State.enqueue_of_room {sd : Side} (room : s.agent.queue.length < 4) :
    s.enqueue sd f =
      { s with
        agent :=
          match sd with
          | .site => { s.agent with queue := s.agent.queue ++ [⟨.site, f⟩], queuedSite := bump s.agent.queuedSite }
          | .radio => { s.agent with queue := s.agent.queue ++ [⟨.radio, f⟩], queuedRadio := bump s.agent.queuedRadio } } := by
  rw [State.enqueue, if_neg (show ¬ Config.inputQueueSize ≤ s.agent.queue.length from Nat.not_le.2 room)]
  cases sd <;> rfl

theorem State.enqueue_of_full {sd : Side} (full : 4 ≤ s.agent.queue.length) :
    s.enqueue sd f =
      { s with
        agent := { s.agent with queueDrops := bump s.agent.queueDrops }
        alert := s.alert.raise .mgmtDrop } :=
  if_pos full

end

/-- Settles O33: one equation per check of R101, then the two ways of the input queue for a frame that is the Agent's. -/
theorem ingressDropsAndDiverts : Obligations.IngressDropsAndDiverts := by
  unfold Obligations.IngressDropsAndDiverts
  intro s f live
  dsimp only
  rw [← fcsGood_iff, exec_ingressFrameArrival_whole live]
  refine ⟨State.unlessHeld_live live _, fun bad => ?_, fun good short => ?_, fun good long => ?_, fun good hmin hmax mine => ?_⟩
  · rw [State.ingress_of_badFcs bad]
  · rw [State.ingress_of_short good short]
  · rw [State.ingress_of_long good long]
  · have recognised : s.agent.recognises f = true := (s.agent.recognises_iff f).2 mine
    rw [State.ingress_of_passed good hmin hmax, State.acceptIngress_of_recognised recognised]
    exact ⟨fun room => congrArg _ (State.enqueue_of_room room), fun full => congrArg _ (State.enqueue_of_full full)⟩

/-! ### Class Admission -/

/-- A frame taken leaves the free slot count lower by its slots, where it had that many. -/
theorem Queues.free_join (q : Queues) (k : ClassId) (f : Frame) (room : slotCount f ≤ q.free) :
    (q.join k f).free + slotCount f = q.free := by
  have sum := q.sum_join k f
  simp only [Queues.free] at room ⊢
  omega

theorem Admission.count_get_same (a : Admission) (k : ClassId) (g : ClassCounters → ClassCounters) :
    (a.count k g).counters.get k = g (a.counters.get k) :=
  Quad.get_upd_same _ _ _

/-- Settles O35: the four branches of Class Admission, in the order of its checks. -/
theorem admissionByFirstFailingCheck : Obligations.AdmissionByFirstFailingCheck := by
  unfold Obligations.AdmissionByFirstFailingCheck
  intro s k f
  dsimp only
  have others (g : ClassCounters → ClassCounters) (j : ClassId) (h : j ≠ k) :
      (s.admission.count k g).counters.get j = s.admission.counters.get j := Quad.get_upd_ne _ _ h
  have unjoined (g : ClassCounters → ClassCounters) (j : ClassId) (h : j ≠ k) :
      (s.admission.count k g).counters.get j = s.admission.counters.get j ∧
        s.queues.frames.get j = s.queues.frames.get j ∧ s.queues.occupancy.get j = s.queues.occupancy.get j :=
    ⟨others g j h, rfl, rfl⟩
  have slots : (f.length + 63) / 64 = slotCount f := rfl
  have free : 16384 - (s.queues.occupancy.get 0 + s.queues.occupancy.get 1 + s.queues.occupancy.get 2 +
      s.queues.occupancy.get 3) = s.queues.free := rfl
  simp only [State.admitFrame, slots, free]
  by_cases shed : s.admission.shed.get k = true
  · simp only [if_pos shed]
    exact ⟨_, s.queues.frames, s.queues.occupancy, rfl, unjoined _, Admission.count_get_same .., rfl, rfl⟩
  simp only [if_neg shed]
  by_cases limit : s.admission.limits.get k < s.queues.occupancy.get k + slotCount f
  · simp only [if_pos limit]
    exact ⟨_, s.queues.frames, s.queues.occupancy, rfl, unjoined _, Admission.count_get_same .., rfl, rfl⟩
  simp only [if_neg limit]
  by_cases buffer : s.queues.free < slotCount f
  · simp only [if_pos buffer]
    exact ⟨_, s.queues.frames, s.queues.occupancy, rfl, unjoined _, Admission.count_get_same .., rfl, rfl⟩
  simp only [if_neg buffer]
  have occupied : (s.queues.join k f).occupancy.get k = s.queues.occupancy.get k + slotCount f := Quad.get_upd_same _ _ _
  refine ⟨_, (s.queues.join k f).frames, (s.queues.join k f).occupancy, rfl,
    fun j h => ⟨others _ j h, Quad.get_upd_ne _ _ h, Quad.get_upd_ne _ _ h⟩,
    Admission.count_get_same .., Quad.get_upd_same _ _ _, occupied, ?_, s.queues.free_join k f (Nat.le_of_not_lt buffer)⟩
  exact occupied ▸ Nat.le_of_not_lt limit

/-! ### The shed evaluation and the contribution signal -/

/-- Some class goes from unshed to shed, class 0 aside. -/
theorem newlyShed_iff (before after : Quad Bool) :
    newlyShed before after = true ↔ ∃ k : ClassId, k ≠ 0 ∧ before.get k = false ∧ after.get k = true := by
  have atClass (k : ClassId) : (!before.get k && after.get k) = true ↔ before.get k = false ∧ after.get k = true := by simp
  rw [newlyShed, Bool.or_eq_true, Bool.or_eq_true]
  constructor
  · rintro ((h | h) | h)
    · exact ⟨1, by decide, (atClass 1).1 h⟩
    · exact ⟨2, by decide, (atClass 2).1 h⟩
    · exact ⟨3, by decide, (atClass 3).1 h⟩
  · rintro ⟨k, hk, h⟩
    match k, hk with
    | 1, _ => exact .inl (.inl ((atClass 1).2 h))
    | 2, _ => exact .inl (.inr ((atClass 2).2 h))
    | 3, _ => exact .inr ((atClass 3).2 h)

theorem State.shedEvaluate_eq (s : State) :
    s.shedEvaluate =
      { s with
        admission := { s.admission with shed := s.admission.evaluate.shed, counters := s.admission.evaluate.counters }
        alert := if newlyShed s.admission.shed s.admission.evaluate.shed = true then s.alert.raise .shed else s.alert } := by
  simp only [State.shedEvaluate, State.signalIf]
  split <;> rfl

/-- The shed evaluation of one of the classes 1 to 3, by the shed state it has and the place of the aggregate (R112). -/
theorem Admission.evaluate_class (a : Admission) {k : ClassId} (hk : k ≠ 0) :
    (a.shed.get k = false → a.aggregate < a.shedTable.get k →
        a.evaluate.shed.get k = true ∧
          a.evaluate.counters.get k = { a.counters.get k with shedEntries := bump (a.counters.get k).shedEntries }) ∧
      (a.shed.get k = true → a.shedTable.get k + a.shedTable.get 0 ≤ a.aggregate →
        a.evaluate.shed.get k = false ∧ a.evaluate.counters.get k = a.counters.get k) ∧
      (a.shed.get k = false → a.shedTable.get k ≤ a.aggregate →
        a.evaluate.shed.get k = false ∧ a.evaluate.counters.get k = a.counters.get k) ∧
      (a.shed.get k = true → a.aggregate < a.shedTable.get k + a.shedTable.get 0 →
        a.evaluate.shed.get k = true ∧ a.evaluate.counters.get k = a.counters.get k) := by
  rw [a.evaluate_shed k hk, a.evaluate_counters k hk, show a.shedTable.at0 = a.shedTable.get 0 from rfl]
  refine ⟨fun h low => ?_, fun h high => ?_, fun h high => ?_, fun h low => ?_⟩
  · simp [shedNext, h, low]
  · simp [shedNext, h, Nat.not_lt.2 high]
  · simp [shedNext, h, Nat.not_lt.2 high]
  · simp [shedNext, h, low]

theorem CarrierState.carries_iff (st : CarrierState) : st.carries = true ↔ st = .run ∨ st = .hold := by
  cases st <;> simp [CarrierState.carries]

/-- The contributions signalled add up to something else once one of them is replaced by another value. -/
theorem Quad.sum_set_ne {q : Quad Nat} {i : Fin 4} {n : Nat} (h : n ≠ q.get i) : (q.set i n).sum ≠ q.sum := by
  have sum := q.sum_set i n
  omega

theorem State.signalContribution_of_same {s : State} {c : CarrierId}
    (h : (s.car c).contribution = s.admission.contributions.get c) : s.signalContribution c = s :=
  if_pos h

/-- A contribution that has changed changes the aggregate, so that an evaluation follows. -/
theorem State.signalContribution_of_changed {s : State} {c : CarrierId}
    (h : (s.car c).contribution ≠ s.admission.contributions.get c) :
    s.signalContribution c =
      { s with
        admission := { s.admission with contributions := s.admission.contributions.set c (s.car c).contribution } }.shedEvaluate := by
  rw [State.signalContribution, if_neg h]
  exact if_neg (Quad.sum_set_ne h)

/-- Settles O36: the evaluation class by class with its latch, and the signal by whether its value has changed. -/
theorem contributionSignalAndShedEvaluation : Obligations.ContributionSignalAndShedEvaluation := by
  unfold Obligations.ContributionSignalAndShedEvaluation
  refine ⟨fun s => ⟨_, _, _, s.shedEvaluate_eq, rfl, rfl, fun k hk => s.admission.evaluate_class hk, ?_⟩, fun s c => ?_⟩
  · simp only [newlyShed_iff]
  · have value : (if (s.car c).control.state = .run ∨ (s.car c).control.state = .hold then
        ((s.car c).ladder.at (s.car c).sched.outbound).capacity else 0) = (s.car c).contribution := by
      simp only [Carrier.contribution, CarrierState.carries_iff]
    dsimp only
    rw [value, State.signalContribution_contributions]
    exact ⟨State.signalContribution_of_same, State.signalContribution_of_changed, fun d h => Quad.get_set_ne _ _ h,
      Quad.get_set_same _ _ _⟩

end Sys2Proof.Machine
end

section
/-! PROOFS. The Segment Distributor (O37, O38, O39): draws, fills and the sweep's step at a fill. -/

namespace Sys2Proof.Machine

/-! ### Draws -/

/-- A run of draws that falls short of the number asked for has emptied the queues. -/
theorem Queues.drawMany_short (n : Nat) (q : Queues) (short : (q.drawMany n).1.length < n) :
    (q.drawMany n).2.cursor = none ∧ ∀ k, (q.drawMany n).2.frames.get k = [] := by
  induction n generalizing q with
  | zero => exact absurd short (Nat.not_lt_zero _)
  | succ n ih =>
    rcases q.draw_cases with ⟨cu, -, drawn⟩ | ⟨-, k, f, l, -, drawn⟩ | ⟨cursor, empty, drawn⟩
    · simp only [Queues.drawMany, drawn, List.length_cons] at short ⊢
      exact ih _ (Nat.lt_of_succ_lt_succ short)
    · simp only [Queues.drawMany, drawn, List.length_cons] at short ⊢
      exact ih _ (Nat.lt_of_succ_lt_succ short)
    · simp only [Queues.drawMany, drawn]
      exact ⟨cursor, empty⟩

theorem Queues.drawMany_length (n : Nat) (q : Queues) : (q.drawMany n).1.length ≤ n := by
  induction n generalizing q with
  | zero => exact Nat.le_refl 0
  | succ n ih =>
    rcases h : q.draw with _ | ⟨g, q'⟩
    · simp [Queues.drawMany, h]
    · simp only [Queues.drawMany, h, List.length_cons]
      exact Nat.succ_le_succ (ih q')

theorem seqRun_getElem? (a : SeqNo) (n i : Nat) (h : i < n) : (seqRun a n)[i]? = some (a + BitVec.ofNat 16 i) := by
  simp [seqRun, h]

/-- The segments of a run of draws bear the numbers from the sequence counter on. -/
theorem Queues.drawMany_numbered (q : Queues) (n i : Nat) (g : Segment) (h : (q.drawMany n).1[i]? = some g) :
    g.seq = q.seq + BitVec.ofNat 16 i ∧ g.idle = false := by
  obtain ⟨numbers, -, data, -⟩ := q.drawMany_held n
  refine ⟨?_, data g (List.mem_of_getElem? h)⟩
  have seq : ((q.drawMany n).1.map Segment.seq)[i]? = some g.seq := by rw [List.getElem?_map, h]; rfl
  rw [numbers, seqRun_getElem? _ _ _ (List.getElem?_eq_some_iff.1 h).1] at seq
  exact (Option.some.inj seq).symm

/-- Settles O37: one draw by its three cases, and a run of draws by induction on the number asked for. -/
theorem drawsTakeSlotsInOrder : Obligations.DrawsTakeSlotsInOrder := by
  unfold Obligations.DrawsTakeSlotsInOrder
  have last (cu : Cursor) : (if decide ((cu.frame.length + 63) / 64 ≤ cu.next + 1) = true then none
      else some { cu with next := cu.next + 1 }) =
      if slotCount cu.frame ≤ cu.next + 1 then none else some { cu with next := cu.next + 1 } :=
    if_congr decide_eq_true_iff rfl rfl
  refine ⟨fun q => ⟨fun cu h => ?_, fun h => ⟨fun k f l hk hj => ?_, fun hk => Queues.draw_of_empty h hk⟩⟩, fun q n => ?_⟩
  · dsimp only
    rw [Queues.draw_of_cursor h, last]
    rfl
  · have last := last ⟨f, k, 0⟩
    dsimp only at last ⊢
    rw [Queues.draw_of_head h hk hj, last]
    rfl
  · obtain ⟨-, seq, -, held⟩ := q.drawMany_held n
    exact ⟨q.drawMany_length n, seq, q.drawMany_numbered n, q.drawMany_short n, held⟩

/-! ### The grant of a fill -/

theorem Carrier.sweepFill_idle {k : Carrier} (h : k.test.sweepActive = false) : k.sweepFill = k := by
  simp [Carrier.sweepFill, h]

theorem Carrier.sweepFill_count {k : Carrier} (active : k.test.sweepActive = true) (h : ¬ k.test.dw ≤ k.test.sweepCount + 1) :
    k.sweepFill = { k with test := { k.test with sweepCount := k.test.sweepCount + 1 } } := by
  simp [Carrier.sweepFill, TestUnit.sweepReaches, active, h]

/-- The sweep at a fill: the Test Unit and the Scheduler alone (R157). -/
theorem Carrier.sweepFill_eq (k : Carrier) :
    k.sweepFill =
      { k with
        test :=
          if k.test.sweepActive then
            if k.test.dw ≤ k.test.sweepCount + 1 then
              if k.test.sweepStep < k.txCeil then { k.test with sweepStep := k.test.sweepStep + 1, sweepCount := 0 }
              else { k.test with sweepActive := false, sweepCount := k.test.sweepCount + 1 }
            else { k.test with sweepCount := k.test.sweepCount + 1 }
          else k.test
        sched :=
          if k.test.sweepReaches && decide (k.test.sweepStep < k.txCeil) then k.sched.force (k.test.sweepStep + 1)
          else k.sched } := by
  rcases active : k.test.sweepActive
  · rw [Carrier.sweepFill_idle active]
    simp [TestUnit.sweepReaches, active]
  by_cases h : k.test.dw ≤ k.test.sweepCount + 1
  · have reaches : k.test.sweepReaches = true := by simp [TestUnit.sweepReaches, active, h]
    by_cases ht : k.test.sweepStep < k.txCeil
    · rw [Carrier.sweepFill_up reaches ht]
      simp [reaches, h, ht, active]
    · rw [Carrier.sweepFill_end reaches ht]
      simp [reaches, h, ht]
  · rw [Carrier.sweepFill_count active h]
    simp [TestUnit.sweepReaches, h, active]

section
variable {s : State} {c : CarrierId} {n : FrameNo}

theorem State.car_beginFill (s : State) (c : CarrierId) (n : FrameNo) :
    (s.beginFill c n).car c = ((s.car c).chooseProfile n).dropRequest := by
  simp [State.beginFill, State.car]

theorem State.car_beginFill_of_ne (s : State) {c d : CarrierId} (n : FrameNo) (h : d ≠ c) :
    (s.beginFill c n).car d = s.car d := by
  have signals : (s.beginFill c n).car d = (s.setCar c ((s.car c).chooseProfile n).dropRequest).car d := by
    simp [State.beginFill, State.car]
  rw [signals, State.car_setCar, if_neg h]

@[simp] theorem State.beginFill_filling (s : State) (c : CarrierId) (n : FrameNo) : (s.beginFill c n).filling = s.filling := by
  simp [State.beginFill]

@[simp] theorem State.beginFill_pins (s : State) (c : CarrierId) (n : FrameNo) : (s.beginFill c n).pins = s.pins := by
  simp [State.beginFill]

/-- FILL, where no fill is being carried out and a request is granted. -/
theorem State.fill_of_grant (idle : s.filling = none) (granted : s.grant = some (c, n)) : s.fill = (s.openFill c n).goOn := by
  rw [State.fill_none idle, State.grantFill, granted]

/-- A granted fill that is no data fill is carried out whole: its record is handed over at once. -/
theorem State.openFill_goOn_of_whole (idle : s.filling = none) {kind : FillKind} {w : Filling}
    (opened : s.openFill c n = (s.beginFill c n).handRecord kind c n ((s.car c).sched.fillProfile n).1 w) :
    (s.openFill c n).goOn = (s.beginFill c n).handRecord kind c n ((s.car c).sched.fillProfile n).1 w := by
  have none : (s.openFill c n).filling = none := by
    rw [opened]
    exact (s.beginFill_filling c n).trans idle
  rw [State.goOn_none none, opened]

theorem State.openFill_pattern (h : (s.car c).control.state = .test) :
    s.openFill c n =
      (s.beginFill c n).handRecord .pattern c n ((s.car c).sched.fillProfile n).1
        (patternFilling ((s.car c).ladder.at ((s.car c).sched.fillProfile n).1).capacity) := by
  simp [State.openFill, h, fillKind]

theorem State.openFill_idle (h : (s.car c).control.state = .acquire ∨ (s.car c).control.state = .fallback) :
    s.openFill c n =
      (s.beginFill c n).handRecord .idle c n ((s.car c).sched.fillProfile n).1
        (idleFilling ((s.car c).ladder.at ((s.car c).sched.fillProfile n).1).capacity) := by
  rcases h with h | h <;> simp [State.openFill, h, fillKind]

theorem State.openFill_data (h : (s.car c).control.state = .run ∨ (s.car c).control.state = .hold) :
    s.openFill c n = { s.beginFill c n with filling := some ⟨c, n, ((s.car c).sched.fillProfile n).1, []⟩ } := by
  rcases h with h | h <;> simp [State.openFill, h, fillKind]

end

/-! ### The draws of a fill -/

/-- The end of a fill whose carrier has just placed segments, field by field (R4, R125, R132). -/
theorem State.endFill_placed (s : State) (w : OpenFill) (n : Nat) (drawn : List Segment) :
    (s.updCar w.carrier (fun k => k.place n)).endFill { w with drawn := drawn } =
      State.setCar
        { s.setCar w.carrier ((s.car w.carrier).place n) with filling := none }
        w.carrier
        (((s.car w.carrier).place n).takeRecord .data w.fn w.profile (dataFilling drawn (s.fillCapacity w))) := by
  simp [State.endFill, State.handRecord, State.updCar, State.fillCapacity, State.car]

/-- FILL while a fill is being carried out: the draws of the plan's first entry, all that are left where it lists none. -/
theorem State.fill_open {s : State} {w : OpenFill} (h : s.filling = some w) :
    s.fill =
      let left := s.fillCapacity w - w.drawn.length
      let m := match s.drawPlan with | [] => left | n :: _ => min n left
      let d := s.queues.drawMany m
      let t := State.updCar { s with queues := d.2, drawPlan := s.drawPlan.tail } w.carrier (fun k => k.place d.1.length)
      if d.1.length = m ∧ (w.drawn ++ d.1).length < s.fillCapacity w then
        { t with filling := some { w with drawn := w.drawn ++ d.1 } }
      else t.endFill { w with drawn := w.drawn ++ d.1 } := by
  have goes : s.fill = s.goOn := by simp [State.fill, h]
  rw [goes]
  rcases plan : s.drawPlan with _ | ⟨n, rest⟩
  · rw [State.goOn_nil plan, State.completeFill_some h]
    dsimp only
    rw [if_neg]
    · simp only [plan, List.tail_nil]
    · rintro ⟨all, room⟩
      rw [List.length_append, all] at room
      omega
  · have planned : s.goOn = State.drawOn { s with drawPlan := rest } n := by simp only [State.goOn, h, plan]
    rw [planned, State.drawOn_some (s := { s with drawPlan := rest }) h n]
    simp only [List.tail_cons]
    rfl

theorem dataFilling_firstSeq (drawn : List Segment) (cap : Nat) :
    (dataFilling drawn cap).firstSeq = (drawn.head?.map Segment.seq).getD 0 := by
  cases drawn <;> rfl

/-- Settles O38: no request, a granted fill by its kind, and a fill being carried out by the plan. -/
theorem fillGrantedByChainOrder : Obligations.FillGrantedByChainOrder := by
  unfold Obligations.FillGrantedByChainOrder
  refine ⟨fun s live idle none => ?_, fun s c n live idle first stands on => ?_, fun s w live opened => ?_⟩
  · have nothing : s.fill = s := by
      rw [State.fill_none idle, State.grantFill, State.grant_none none]
      exact State.goOn_none idle
    exact (State.unlessHeld_live live State.fill).trans (congrArg _ nothing)
  · have granted : s.grant = some (c, n) := State.grant_of_first stands first
    have fill : exec .fill s = .next (s.openFill c n).goOn :=
      (State.unlessHeld_live live State.fill).trans (congrArg _ (State.fill_of_grant idle granted))
    intro k top atSf p chosen reaches test sched e k' begun record
    have choice : (s.car c).sched.fillProfile n = (p, chosen) := Scheduler.fillProfile_eq _ _
    have carrier : ((s.car c).chooseProfile n).dropRequest = k' := by
      rw [Carrier.chooseProfile, choice, Carrier.sweepFill_eq]
      rfl
    have begins : s.beginFill c n = begun := by
      rw [State.beginFill, carrier]
      rfl
    have atBegun : begun.car c = k' := by rw [← begins, State.car_beginFill, carrier]
    refine ⟨fun h => ?_, fun h => ?_, fun h => ?_⟩
    · rw [fill, State.openFill_goOn_of_whole idle (State.openFill_pattern h), begins, choice, State.handRecord, State.updCar]
      beta_reduce
      rw [atBegun]
      rfl
    · rw [fill, State.openFill_goOn_of_whole idle (State.openFill_idle h), begins, choice, State.handRecord, State.updCar]
      beta_reduce
      rw [atBegun]
      rfl
    · have held : begun.live := by rw [← begins]; exact (congrArg Pins.resetLow (s.beginFill_pins c n)).trans live
      rw [fill, State.openFill_data h, begins, choice]
      exact (State.unlessHeld_live (s := { begun with filling := some ⟨c, n, p, []⟩ }) held State.fill).symm
  · have goesOn : exec .fill s = .next s.fill := State.unlessHeld_live live State.fill
    intro k e left m d drawn placed t done
    have ended : (State.updCar { s with queues := d.2, drawPlan := s.drawPlan.tail } w.carrier (fun k => k.place d.1.length)).endFill
        { w with drawn := drawn } = done := by
      have atPlaced : State.car { t with filling := none } w.carrier = k.place d.1.length := State.car_setCar_same _ _ _
      have firstSeq := dataFilling_firstSeq drawn e.capacity
      rw [State.endFill_placed (s := { s with queues := d.2, drawPlan := s.drawPlan.tail }), Carrier.takeRecord, Carrier.fillRecord]
      simp only [done, atPlaced, ← firstSeq]
      rfl
    refine ⟨?_, fun plan => ?_, fun l => s.completeFill_withPlan l, fun c => by rw [State.completeFillOf, opened]⟩
    · rw [goesOn, State.fill_open opened, ← ended]
      rfl
    · have all : m = left := by simp only [m, plan]
      rw [State.completeFill_some opened, ← ended]
      simp only [drawn, d, all, plan, List.tail_nil]
      rfl

/-! ### The sweep's step at a fill -/

/-- What a fill leaves of a carrier once the Scheduler and the sweep have made their choice. -/
def Carrier.besideFill (k : Carrier) : Control × Requester × Estimator × Ladder × Scheduler × TestUnit :=
  (k.control, k.req, k.est, k.ladder, k.sched, k.test)

section
variable {s : State} {c : CarrierId} {n : FrameNo}

theorem State.besideFill_completeFill (s : State) (c : CarrierId) : (s.completeFill.car c).besideFill = (s.car c).besideFill := by
  rcases s.car_completeFill c with h | ⟨m, n, p, w, h⟩ <;> rw [h]
  rfl

/-- A fill granted to a carrier that is not OFF is begun or handed over, and leaves all else to its beginning. -/
theorem State.openFill_begun (on : (s.car c).control.state ≠ .off) :
    (∃ p, s.openFill c n = { s.beginFill c n with filling := some ⟨c, n, p, []⟩ }) ∨
      ∃ kind p w, s.openFill c n = (s.beginFill c n).handRecord kind c n p w := by
  rcases h : (s.car c).control.state
  case off => exact absurd h on
  case acquire => exact .inr ⟨_, _, _, State.openFill_idle (.inl h)⟩
  case fallback => exact .inr ⟨_, _, _, State.openFill_idle (.inr h)⟩
  case run => exact .inl ⟨_, State.openFill_data (.inl h)⟩
  case hold => exact .inl ⟨_, State.openFill_data (.inr h)⟩
  case test => exact .inr ⟨_, _, _, State.openFill_pattern h⟩

theorem State.besideFill_openFill (on : (s.car c).control.state ≠ .off) :
    ((s.openFill c n).car c).besideFill = ((s.car c).chooseProfile n).besideFill := by
  have begun : ((s.beginFill c n).car c).besideFill = ((s.car c).chooseProfile n).besideFill := by
    rw [State.car_beginFill]
    rfl
  rcases State.openFill_begun (n := n) on with ⟨p, h⟩ | ⟨kind, p, w, h⟩
  · rw [h]
    exact begun
  · rw [h, State.handRecord, State.car_updCar_same]
    exact begun

/-- A granted fill leaves every other carrier as it stands. -/
theorem State.car_openFill_of_ne (on : (s.car c).control.state ≠ .off) {d : CarrierId} (hd : d ≠ c) :
    (s.openFill c n).car d = s.car d := by
  have begun := s.car_beginFill_of_ne n hd
  rcases State.openFill_begun (n := n) on with ⟨p, h⟩ | ⟨kind, p, w, h⟩
  · rw [h]
    exact begun
  · rw [h, State.handRecord, State.car_updCar, if_neg hd]
    exact begun

theorem State.car_completeFill_of_ne {d : CarrierId} (hd : ∀ w, s.filling = some w → d ≠ w.carrier) : s.completeFill.car d = s.car d := by
  rcases h : s.filling with _ | w
  · rw [State.completeFill_none h]
  · rw [State.completeFill_some h]
    simp only [State.car_endFill, if_neg (hd w h), State.car_updCar]
    rfl

theorem State.openFill_alert (on : (s.car c).control.state ≠ .off) : (s.openFill c n).alert = (s.beginFill c n).alert := by
  rcases State.openFill_begun (n := n) on with ⟨p, h⟩ | ⟨kind, p, w, h⟩ <;> rw [h]
  rfl

/-- SWEEP DONE after a fill is begun: where it was set, and where the fill ends its sweep (R157). -/
theorem State.beginFill_sweepDone (s : State) (c : CarrierId) (n : FrameNo) :
    (s.beginFill c n).alert.isSet .sweepDone = ((s.car c).sweepEnds || s.alert.isSet .sweepDone) := by
  rw [State.beginFill, State.signalContribution_isSet _ _ _ (by simp), State.signalIf_alert]
  cases (s.car c).sweepEnds <;> simp

/-- What a granted fill leaves alone, outside its carrier, Class Admission, the fill itself and the latches. -/
theorem State.openFill_others (on : (s.car c).control.state ≠ .off) :
    let u := s.openFill c n
    (u.site, u.classifier, u.reseq, u.history, u.agent, u.pins, u.out, u.drawPlan, u.pending) =
      (s.site, s.classifier, s.reseq, s.history, s.agent, s.pins, s.out, s.drawPlan, s.pending) := by
  rcases State.openFill_begun (n := n) on with ⟨p, h⟩ | ⟨kind, p, w, h⟩ <;> rw [h] <;> simp [State.handRecord, State.beginFill]

/-- The fill that a grant begins is the granted carrier's. -/
theorem State.openFill_carrier (idle : s.filling = none) (on : (s.car c).control.state ≠ .off) {w : OpenFill}
    (h : (s.openFill c n).filling = some w) : w.carrier = c := by
  rcases State.openFill_begun (n := n) on with ⟨p, opened⟩ | ⟨kind, p, v, opened⟩
  · rw [opened] at h
    cases h
    rfl
  · rw [opened] at h
    have none : (s.beginFill c n).filling = some w := h
    rw [State.beginFill_filling, idle] at none
    cases none

theorem State.openFill_of_test (idle : s.filling = none) (h : (s.car c).control.state = .test) : (s.openFill c n).filling = none := by
  rw [State.openFill_pattern h]
  exact (s.beginFill_filling c n).trans idle

/-- The forced switch is taken by the fill that it gives its profile (R92). -/
theorem Scheduler.fillProfile_forced (d : Scheduler) (n : FrameNo) : (d.fillProfile n).2.forced = none := by
  rw [Scheduler.fillProfile_eq]

end

/-- Settles O39: the whole fill, then the two ways of a sweep that has come to its dwell. -/
theorem sweepStepsAtDwell : Obligations.SweepStepsAtDwell := by
  unfold Obligations.SweepStepsAtDwell
  intro s₀ c n live granted on active dwell s u top
  have grantedAfter : s.grantFill = s.openFill c n := by rw [State.grantFill, State.grant_completeFill, granted]
  have test : (s.car c).test = (s₀.car c).test := s₀.car_completeFill_test c
  have onAfter : (s.car c).control.state ≠ .off := by rwa [s₀.car_completeFill_control c]
  have reaches : (s.car c).test.sweepReaches = true := by simp [TestUnit.sweepReaches, test, active, dwell]
  have comes : s₀.nextFillReaches = true := by
    simp only [State.nextFillReaches, granted, ← test, reaches, decide_eq_true on, Bool.and_self]
  have whole : s₀.fillNext = (s.openFill c n).completeFill := by rw [State.fillNext, grantedAfter]
  have idle : s.filling = none := s₀.completeFill_filling
  have beside : ((s₀.fillNext).car c).besideFill = ((s.car c).chooseProfile n).besideFill := by
    rw [whole, State.besideFill_completeFill, State.besideFill_openFill onAfter]
  have latch : s₀.fillNext.alert.isSet .sweepDone = ((s.car c).sweepEnds || s.alert.isSet .sweepDone) := by
    rw [whole, State.completeFill_alert, State.openFill_alert onAfter, State.beginFill_sweepDone]
  refine ⟨s₀.fillNext, (State.unlessHeld_live live _).trans (by rw [comes]; rfl), fun planned => ?_, fun d hd => ?_, ?_⟩
  · have liveAfter : s.live := (congrArg Pins.resetLow s₀.completeFill_pins).trans live
    refine (State.unlessHeld_live liveAfter State.fill).trans (congrArg _ ?_)
    rw [State.fill_none idle, grantedAfter, whole]
    rcases planned with plan | h
    · exact State.goOn_nil (grantedAfter ▸ s.grantFill_drawPlan.trans plan)
    · have done := State.openFill_of_test (n := n) idle h
      rw [State.goOn_none done, State.completeFill_none done]
  · have others := State.car_openFill_of_ne (n := n) onAfter hd
    rw [whole, State.car_completeFill_of_ne, others]
    intro w hw
    rwa [State.openFill_carrier idle onAfter hw]
  · simp only [Carrier.besideFill, Prod.mk.injEq, Carrier.chooseProfile_control, Carrier.chooseProfile_req,
      Carrier.chooseProfile_est, Carrier.chooseProfile_ladder] at beside
    obtain ⟨control, req, est, ladder, sched, tested⟩ := beside
    refine ⟨control, req, est, ladder, ?_, ?_⟩
    · rw [whole]
      simpa using State.openFill_others (n := n) onAfter
    · rw [tested, sched, latch, Carrier.sweepEnds, reaches]
      split
      · rename_i below
        rw [Carrier.chooseProfile_up reaches below]
        have goesOn : decide ((s.car c).txCeil ≤ (s.car c).test.sweepStep) = false := decide_eq_false (Nat.not_le.2 below)
        exact ⟨rfl, rfl, rfl, by rw [goesOn]; rfl⟩
      · rename_i atTop
        rw [Carrier.chooseProfile_end reaches atTop]
        have ends : decide ((s.car c).txCeil ≤ (s.car c).test.sweepStep) = true := decide_eq_true (Nat.not_lt.1 atTop)
        exact ⟨rfl, Scheduler.fillProfile_forced _ _, by rw [ends]; rfl⟩

end Sys2Proof.Machine
end

section
/-! PROOFS. The inbound frame arrival (O40 to O44): the judgement of its header, its items, its steps and the changes of state. -/

namespace Sys2Proof.Machine

/-! ### The judgement of a header (R12, R13) -/

/-- The status that each status code names, in the order of the codes. -/
theorem statusOf_eq (b : BitVec 4) :
    statusOf b =
      if b = 1 then some .acquire else if b = 2 then some .run else if b = 3 then some .fallback
      else if b = 4 then some .hold else if b = 5 then some .test else none := by
  revert b
  decide

theorem kindOf_eq (b : BitVec 2) : kindOf b = if b = 1 then some .step else if b = 2 then some .urgent else none := by
  revert b
  decide

theorem verdictOf_eq (h : HeaderBits) :
    verdictOf h =
      if h.verdict = 1 then some (.accept (min h.granted.toNat 11) h.sf)
      else if h.verdict = 2 then some .refuse else if h.verdict = 3 then some .busy else none := by
  have codes (v : BitVec 2) : v = 0 ∨ v = 1 ∨ v = 2 ∨ v = 3 := by revert v; decide
  rcases codes h.verdict with e | e | e | e <;> simp [verdictOf, e, reduceProfile]

theorem judgeHeader_of_unlocked {len : Nat} {f : InboundFrame} (h : f.lock = false ∨ f.header = none) :
    judgeHeader len f = .error .unlocked := by
  rcases h with h | h
  · simp [judgeHeader, h]
  · cases lock : f.lock <;> simp [judgeHeader, h, lock]

section
variable {len : Nat} {f : InboundFrame} {bytes : List Byte}

theorem judgeHeader_of_checkFailure (lock : f.lock = true) (header : f.header = some bytes)
    (h : crc16 (bytes.take 12) ≠ word16 (byteAt bytes 12) (byteAt bytes 13)) : judgeHeader len f = .error .checkFailure := by
  simp [judgeHeader, lock, header, headerCheckGood, h]

theorem judgeHeader_of_badStatus (lock : f.lock = true) (header : f.header = some bytes)
    (h : crc16 (bytes.take 12) = word16 (byteAt bytes 12) (byteAt bytes 13)) (status : statusOf (readHeaderBody bytes).status = none) :
    judgeHeader len f = .error .badStatus := by
  simp [judgeHeader, lock, header, headerCheckGood, h, status]

theorem judgeHeader_of_good (lock : f.lock = true) (header : f.header = some bytes)
    (h : crc16 (bytes.take 12) = word16 (byteAt bytes 12) (byteAt bytes 13)) {st : CarrierState}
    (status : statusOf (readHeaderBody bytes).status = some st) :
    judgeHeader len f = .ok (reduceHeader len st (readHeaderBody bytes)) := by
  simp [judgeHeader, lock, header, headerCheckGood, h, status]

end

/-- The reduced values of a good header, written out (R13). -/
theorem reduceHeader_eq (len : Nat) (st : CarrierState) (b : HeaderBits) :
    reduceHeader len st b =
      { status := st
        fn := b.fn
        profile := min b.profile.toNat 11
        unreadable := decide (12 ≤ b.profile.toNat ∨ len ≤ b.profile.toNat)
        ladderCode := b.ladderCode
        request :=
          if b.kind = 1 then some ⟨.step, min b.target.toNat 11⟩
          else if b.kind = 2 then some ⟨.urgent, min b.target.toNat 11⟩ else none
        reqTag := b.reqTag
        verdict :=
          if b.verdict = 1 then some (.accept (min b.granted.toNat 11) b.sf)
          else if b.verdict = 2 then some .refuse else if b.verdict = 3 then some .busy else none
        ansTag := b.ansTag
        firstSeq := b.firstSeq
        dataCount := b.dataCount.toNat } := by
  have request : (kindOf b.kind).map (fun k => (⟨k, reduceProfile b.target⟩ : Request)) =
      if b.kind = 1 then some ⟨.step, min b.target.toNat 11⟩
      else if b.kind = 2 then some ⟨.urgent, min b.target.toNat 11⟩ else none := by
    rw [kindOf_eq]
    split_ifs <;> rfl
  rw [← verdictOf_eq, ← request, Bool.decide_or]
  rfl

/-! ### The items of its slots (R15) -/

theorem frameItems_of_test {l : Ladder} {h : RxHeader} (slots : List InboundSlot) (test : h.isTest = true) :
    frameItems l (some h) slots = ([], 0) :=
  if_pos test

theorem frameItems_of_data {l : Ladder} {h : RxHeader} (slots : List InboundSlot) (data : ¬ h.isTest = true) :
    frameItems l (some h) slots = slotItems (!h.unreadable) h.firstSeq h.dataCount 0 (readSlots l h slots) :=
  if_neg data

theorem RxHeader.isTest_iff (h : RxHeader) : h.isTest = true ↔ h.status = .test ∧ h.dataCount = 0 := by
  rw [RxHeader.isTest, Bool.and_eq_true, decide_eq_true_iff, decide_eq_true_iff]

/-- Settles O40: the judgement by its first failing condition, and the items slot by slot. -/
theorem headerJudgedAndItemsBySlot : Obligations.HeaderJudgedAndItemsBySlot := by
  unfold Obligations.HeaderJudgedAndItemsBySlot
  refine ⟨fun len f => ⟨judgeHeader_of_unlocked, fun bytes lock header => ?_⟩, fun _ _ => rfl, fun l h given => ?_⟩
  · intro b st
    refine ⟨judgeHeader_of_checkFailure lock header, fun check => ?_⟩
    have status : statusOf b.status = st := statusOf_eq _
    refine ⟨fun bad => judgeHeader_of_badStatus lock header check (status.trans bad), fun st' named => ?_⟩
    rw [judgeHeader_of_good lock header check (status.trans named), reduceHeader_eq]
  · intro slots ill errs
    refine ⟨fun status count => frameItems_of_test given (h.isTest_iff.2 ⟨status, count⟩), fun data => ?_⟩
    have walked := slotItems_spec (!h.unreadable) h.firstSeq h.dataCount 0 slots
    simp only [Nat.zero_add] at walked
    rw [frameItems_of_data given (fun test => data (h.isTest_iff.1 test))]
    exact walked

/-! ### The arrival -/

section
variable {s : State} {c : CarrierId} {k : Carrier} {f : InboundFrame} {taken : Nat} {j : Except BadHeader RxHeader}

theorem exec_inboundFrameArrival (live : s.live) :
    exec (.inboundFrameArrival c f taken) s = .next ((s.completeFillOf c).inbound c f taken) :=
  State.unlessHeld_live live (fun s => s.arrive c f taken)

/-- The lane's counters after an arrival, each with its own condition (R11, R12, R16). -/
theorem Lane.countArrival_eq (x : Lane) (j : Except BadHeader RxHeader) :
    x.countArrival j =
      { x with
        framesReceived := bump x.framesReceived
        unlocked := if j = .error .unlocked then bump x.unlocked else x.unlocked
        checkFailures := if j = .error .checkFailure then bump x.checkFailures else x.checkFailures
        badStatus := if j = .error .badStatus then bump x.badStatus else x.badStatus
        unreadable := if (match goodOf j with | some h => h.unreadable | none => false) then bump x.unreadable else x.unreadable } := by
  rcases j with e | h
  · cases e <;> simp [Lane.countArrival, goodOf]
  · cases unreadable : h.unreadable <;> simp [Lane.countArrival, goodOf, unreadable]

/-- Steps 2 and 3 after step 1: the estimator and the Requester alone, the window taken from the settings, which step 1 keeps. -/
theorem Carrier.estimateAndRequest_hear (k : Carrier) (x : Lane) (f : InboundFrame) (good : Option RxHeader) :
    let k1 := k.hear good
    let est := k.est.arrival f
    let m := k1.req.arrival k.ladder k1.control { lo := k.rxLow, hi := k.rxHigh, quality := est.quality, slope := est.slope } good
    (({ k with lane := x } : Carrier).hear good).estimateAndRequest f good = ({ k1 with lane := x, est := est, req := m.1 }, m.2) := by
  intro k1 est m
  obtain ⟨floor, ceiling, -⟩ := k.hear_limits good
  simp only [k1, m, est, Carrier.hear_setLane, Carrier.estimateAndRequest, Carrier.view, Carrier.rxLow, Carrier.rxHigh, floor,
    ceiling, Carrier.hear_est, Carrier.hear_ladder]

end

/-- Settles O41: the arrival as one change of its carrier, with the lane's counters and the window of the Requester written out. -/
theorem inboundArrivalSteps : Obligations.InboundArrivalSteps := by
  unfold Obligations.InboundArrivalSteps
  intro s₀ c f taken live s k j good k1 est lo hi top m items lane k' differs fell urgent heard asked sample
  rw [exec_inboundFrameArrival live]
  refine congrArg _ ?_
  by_cases off : k.control.state = .off
  · rw [if_pos off]
    exact if_pos off
  rw [if_neg off, State.inbound_eq off]
  have step1 : ({ k with lane := k.lane.countArrival j } : Carrier).hear good = { k1 with lane := k.lane.countArrival j } :=
    k.hear_setLane _ _
  have steps23 : (({ k with lane := k.lane.countArrival j } : Carrier).hear good).estimateAndRequest f good =
      ({ k1 with lane := k.lane.countArrival j, est := est, req := m.1 }, m.2) :=
    k.estimateAndRequest_hear _ f good
  have counted : { k.lane.countArrival j with
      handover := (k.lane.countArrival j).handover ++ items.1
      formatErrors := bumpBy (k.lane.countArrival j).formatErrors items.2 } = lane := by
    rw [Lane.countArrival_eq] <;> rfl
  have txCeiling : k1.control.txCeiling = k.control.txCeiling := (k.hear_limits good).2.2
  have nf : (k.lane.countArrival j).nf.getD 0 = match k.lane.nf with | some n => n | none => 0 := by
    rw [Lane.countArrival_eq]
    cases k.lane.nf <;> rfl
  have est1 : k1.est = k.est := k.hear_est good
  have ladder : k1.ladder = k.ladder := k.hear_ladder good
  have after : k.afterArrival f j = k' := by
    simp only [Carrier.afterArrival, show goodOf j = good from rfl, steps23]
    simp only [step1, Carrier.scheduleStep, Carrier.testStep, Carrier.handOver, Carrier.txCeil, txCeiling, ladder, k']
    rw [← counted, nf] <;> rfl
  have fell' : ({ k with lane := k.lane.countArrival j } : Carrier).fallsBack good = fell := k.fallsBack_iff good
  dsimp only
  rw [steps23, after, fell', step1]
  simp only [observationOf, est1]
  rfl

end Sys2Proof.Machine
end

section
/-! PROOFS. The changes of carrier state at an inbound arrival (O42, O43, O44). -/

namespace Sys2Proof.Machine

/-! ### Step 1 in each state -/

/-- The freshness counter, written out (R20). -/
theorem Control.freshen_eq (x : Control) (good : Option RxHeader) :
    x.freshen good = { x with freshness := if good.isSome then 0 else min (x.freshness + 1) 65535 } := by
  cases good <;> rfl

section
variable {k : Carrier} {good : Option RxHeader} {h : RxHeader}

theorem Carrier.hear_test_state (state : k.control.state = .test) :
    k.hear good = { k with control := k.control.freshen good } := by
  simp [Carrier.hear, show (k.control.freshen good).state = .test from state]

theorem Carrier.hear_carries (state : k.control.state = .run ∨ k.control.state = .hold) :
    k.hear good =
      if k.control.tf ≤ (k.control.freshen good).freshness then { k with control := k.control.freshen good }.enterFallback
      else { k with control := k.control.freshen good } := by
  rcases state with state | state
  · simp only [Carrier.hear, show (k.control.freshen good).state = .run from state]
    rfl
  · simp only [Carrier.hear, show (k.control.freshen good).state = .hold from state]
    rfl

theorem Carrier.hear_acquire (state : k.control.state = .acquire) :
    k.hear good = { k with control := k.control.freshen good }.hearAcquire good := by
  simp only [Carrier.hear, show (k.control.freshen good).state = .acquire from state]

theorem Carrier.hear_fallback (state : k.control.state = .fallback) :
    k.hear good = { k with control := k.control.freshen good }.hearFallback good := by
  simp only [Carrier.hear, show (k.control.freshen good).state = .fallback from state]

/-- A carrier in ACQUIRE, by the ladder code, the status and the count (R21, R22). -/
theorem Carrier.hearAcquire_some (k : Carrier) (h : RxHeader) :
    k.hearAcquire (some h) =
      if h.ladderCode ≠ k.ladder.code then
        { k with control := { k.control with acqCount := 0, ladderMismatches := bump k.control.ladderMismatches } }
      else if h.status = .test then { k with control := { k.control with acqCount := 0 } }
      else if k.control.na ≤ k.control.acqCount + 1 then
        { k with
          control := { k.control with state := .run, acqCount := 0, acquisitions := bump k.control.acquisitions }
          req := { k.req with dwell := 0, holdOff := k.req.th } }
      else { k with control := { k.control with acqCount := k.control.acqCount + 1 } } :=
  rfl

/-- A carrier in FALLBACK, by the status, the count and the recovery (R22, R24, R25). -/
theorem Carrier.hearFallback_some (k : Carrier) (h : RxHeader) :
    k.hearFallback (some h) =
      if h.status = .test then { k with control := { k.control with acqCount := 0 } }
      else if k.control.na ≤ k.control.acqCount + 1 then
        { k with
          control :=
            { k.control with
              state := if k.control.recovery = .auto then .run else .hold
              acqCount := 0, recoveries := bump k.control.recoveries }
          req := if k.control.recovery = .auto then { k.req with dwell := 0, holdOff := k.req.th } else k.req }
      else { k with control := { k.control with acqCount := k.control.acqCount + 1 } } := by
  have recovered : (match k.control.recovery with
      | .auto => Carrier.enterRun { k with control := { k.control with recoveries := bump k.control.recoveries } }
      | .latch => { k with
          control := Control.enter { k.control with recoveries := bump k.control.recoveries } .hold }) =
      { k with
        control :=
          { k.control with
            state := if k.control.recovery = .auto then .run else .hold
            acqCount := 0, recoveries := bump k.control.recoveries }
        req := if k.control.recovery = .auto then { k.req with dwell := 0, holdOff := k.req.th } else k.req } := by
    cases recovery : k.control.recovery <;> simp [Carrier.enterRun, Control.enter, recovery]
  rw [← recovered]
  rfl

end

/-! ### The events inside an arrival -/

section
variable {s₀ : State} {c : CarrierId} {f : InboundFrame} {taken : Nat}

/-- The carrier state after an arrival, taken once a fill of the carrier is completed, is the one that step 1 gives. -/
theorem State.arrive_control (on : ((s₀.completeFillOf c).car c).control.state ≠ .off) :
    ((s₀.arrive c f taken).car c).control =
      (((s₀.completeFillOf c).car c).hear
        (goodOf (judgeHeader ((s₀.completeFillOf c).car c).ladder.length f))).control :=
  State.inbound_control on f taken

theorem exec_fallbackEntry (live : s₀.live) (carries : (s₀.car c).control.state.carries = true)
    (fell : ((s₀.arrive c f taken).car c).control.state = .fallback) :
    exec (.fallbackEntry c f taken) s₀ = .next (s₀.arrive c f taken) := by
  refine (State.unlessHeld_live live _).trans (congrArg _ (if_pos ?_))
  rw [carries, fell]
  rfl

theorem exec_acquisition (live : s₀.live) (acquires : (s₀.car c).control.state = .acquire)
    (runs : ((s₀.arrive c f taken).car c).control.state = .run) :
    exec (.acquisition c f taken) s₀ = .next (s₀.arrive c f taken) := by
  refine (State.unlessHeld_live live _).trans (congrArg _ (if_pos ?_))
  rw [acquires, runs]
  rfl

theorem exec_recovery (live : s₀.live) (fallen : (s₀.car c).control.state = .fallback)
    (carries : ((s₀.arrive c f taken).car c).control.state.carries = true) :
    exec (.recovery c f taken) s₀ = .next (s₀.arrive c f taken) := by
  refine (State.unlessHeld_live live _).trans (congrArg _ (if_pos ?_))
  rw [fallen, carries]
  rfl

end

/-- Settles O42: the freshness counter in TEST, and in RUN and HOLD below and at Tf. -/
theorem freshnessAndFallback : Obligations.FreshnessAndFallback := by
  unfold Obligations.FreshnessAndFallback
  intro s₀ c f taken live s k good fresh
  have freshened : k.control.freshen good = { k.control with freshness := fresh } := k.control.freshen_eq good
  refine ⟨fun test => by rw [Carrier.hear_test_state test, freshened], fun state => ⟨fun below => ?_, fun reached => ?_⟩⟩
  · rw [Carrier.hear_carries state, freshened, if_neg (Nat.not_le.2 below)]
  · have heard : k.hear good =
        { k with
          control :=
            { k.control with state := .fallback, freshness := fresh, acqCount := 0, fallbacks := bump k.control.fallbacks }
          req := { k.req with state := .idle, timer := 0 }
          sched := { k.sched with forced := some 0, scheduled := none } } := by
      rw [Carrier.hear_carries state, freshened, if_pos reached]
      rfl
    have carries : k.control.state.carries = true := (CarrierState.carries_iff _).2 state
    have on : k.control.state ≠ .off := by rintro off; rw [off] at carries; cases carries
    have control := State.arrive_control (f := f) (taken := taken) on
    have falls : k.fallsBack good = true := by
      rw [Carrier.fallsBack, carries, freshened, decide_eq_true reached]
      rfl
    refine ⟨heard, s₀.arrive c f taken, exec_fallbackEntry live ?_ ?_, exec_inboundFrameArrival live, control,
      (State.inbound_isSet on f taken).1 falls, ?_⟩
    · rwa [← State.car_completeFillOf_control s₀ c c]
    · rw [control]
      exact congrArg (fun x => x.control.state) heard
    · refine (State.inbound_contributions on f taken).trans ?_
      have none : (k.hear good).contribution = 0 := by rw [heard]; rfl
      exact congrArg _ none

/-- Settles O43: step 1 in ACQUIRE header by header, and the whole arrival where it latches and where it enters RUN. -/
theorem acquisitionCountsHeaders : Obligations.AcquisitionCountsHeaders := by
  unfold Obligations.AcquisitionCountsHeaders
  intro s₀ c f taken live state₀ s k good counted
  have state : k.control.state = .acquire := (congrArg Control.state (State.car_completeFillOf_control s₀ c c)).trans state₀
  have on : k.control.state ≠ .off := by rw [state]; decide
  have heard : k.hear good = ({ k with control := k.control.freshen good } : Carrier).hearAcquire good := Carrier.hear_acquire state
  rw [Control.freshen_eq] at heard
  have bad (none : good = none) (x : Carrier) : x.hearAcquire good = { x with control := { x.control with acqCount := 0 } } := by
    rw [none]
    rfl
  refine ⟨fun none => heard.trans (bad none _), fun h isGood => ?_⟩
  have acts (x : Carrier) : x.hearAcquire good = x.hearAcquire (some h) := congrArg _ isGood
  rw [acts, Carrier.hearAcquire_some] at heard
  refine ⟨fun differs => ⟨?_, ?_⟩, fun same test => ?_, fun same other below => ?_, fun same other reached => ?_⟩
  · rw [heard, if_pos differs]
  · have latches : k.ladderDiffers good = true := by
      simp [Carrier.ladderDiffers, isGood, state, differs]
    exact ⟨s₀.arrive c f taken, exec_inboundFrameArrival live, (State.inbound_isSet on f taken).2 latches⟩
  · rw [heard, if_neg (not_not.2 same), if_pos test]
  · rw [heard, if_neg (not_not.2 same), if_neg other, if_neg (Nat.not_le.2 below)]
  · rw [if_neg (not_not.2 same), if_neg other, if_pos reached] at heard
    have control := State.arrive_control (f := f) (taken := taken) on
    refine ⟨heard, s₀.arrive c f taken, exec_acquisition live state₀ ?_, exec_inboundFrameArrival live, control, ?_⟩
    · rw [control]
      exact congrArg (fun x => x.control.state) heard
    · refine (State.inbound_contributions on f taken).trans (congrArg _ ?_)
      rw [show k.hear (goodOf (judgeHeader k.ladder.length f)) = _ from heard]
      rfl

/-- Settles O44: step 1 in FALLBACK header by header, and the whole arrival where it leaves for RUN or HOLD. -/
theorem recoveryCountsHeaders : Obligations.RecoveryCountsHeaders := by
  unfold Obligations.RecoveryCountsHeaders
  intro s₀ c f taken live state₀ s k good counted
  have state : k.control.state = .fallback := (congrArg Control.state (State.car_completeFillOf_control s₀ c c)).trans state₀
  have on : k.control.state ≠ .off := by rw [state]; decide
  have heard : k.hear good = ({ k with control := k.control.freshen good } : Carrier).hearFallback good := Carrier.hear_fallback state
  rw [Control.freshen_eq] at heard
  have bad (none : good = none) (x : Carrier) : x.hearFallback good = { x with control := { x.control with acqCount := 0 } } := by
    rw [none]
    rfl
  refine ⟨fun none => heard.trans (bad none _), fun h isGood => ?_⟩
  have acts (x : Carrier) : x.hearFallback good = x.hearFallback (some h) := congrArg _ isGood
  rw [acts, Carrier.hearFallback_some] at heard
  refine ⟨fun test => ?_, fun other below => ?_, fun other reached => ?_⟩
  · rw [heard, if_pos test]
  · rw [heard, if_neg other, if_neg (Nat.not_le.2 below)]
  · rw [if_neg other, if_pos reached] at heard
    have carries : (k.hear good).control.state.carries = true := by
      rw [heard]
      cases k.control.recovery <;> rfl
    have control := State.arrive_control (f := f) (taken := taken) on
    refine ⟨heard, s₀.arrive c f taken, exec_recovery live state₀ ?_, exec_inboundFrameArrival live, control, ?_⟩
    · rw [control]
      exact carries
    · refine (State.inbound_contributions on f taken).trans (congrArg _ ?_)
      have heard' : k.hear (goodOf (judgeHeader k.ladder.length f)) = _ := heard
      rw [Carrier.contribution, show (k.hear (goodOf (judgeHeader k.ladder.length f))).control.state.carries = true from carries,
        if_pos rfl, heard']
      rfl

end Sys2Proof.Machine
end

section
/-! PROOFS. The Requester at an inbound arrival (O46, O47): the decision taken in IDLE and the fate of an outstanding request. -/

namespace Sys2Proof.Machine

/-! ### A Requester that an arrival finds IDLE -/

/-- The hold threshold of R59 as the number that Q is compared with. -/
theorem Ladder.holdAt_cast (l : Ladder) (i : Nat) :
    (l.holdAt i : Int) = (if i = 0 then 0 else ((tableAt l.entries i ⟨0, 0, 0, 0, 0⟩).hold : Nat) : Int) := by
  rw [Ladder.holdAt, apply_ite (Nat.cast (R := Int))]
  rfl

section
variable {q : Requester} {l : Ladder} {x : Control} {v : View}

/-- Part b in IDLE: header authority alone, an inbound profile that changes being unsolicited (R84). -/
theorem Requester.partB_idle (idle : q.state = .idle) (good : Option RxHeader) :
    q.partB good =
      let k : Nat := match good with | some h => h.profile | none => q.inbound
      ({ q with
         inbound := k
         dwell := if k = q.inbound then q.dwell else 0
         unsolicited := if k = q.inbound then q.unsolicited else bump q.unsolicited }, Marks.none) := by
  rcases good with _ | h
  · simp [Requester.partB]
  · have taken : q.takeAnswer h = (q, Marks.none) := by simp [Requester.takeAnswer, idle]
    by_cases same : h.profile = q.inbound
    · simp [Requester.partB, taken, endPending, idle, headerAuthority, same]
      rw [← idle]
    · simp [Requester.partB, taken, endPending, idle, headerAuthority, same]

/-- An arrival that finds the Requester IDLE: parts a and b, then the decision of part c. -/
theorem Requester.arrival_idle (idle : q.state = .idle) (good : Option RxHeader) :
    q.arrival l x v good =
      (((q.partA.partB good).1.partC l x v).1, { Marks.none with issued := ((q.partA.partB good).1.partC l x v).2 }) := by
  have marks : (q.partA.partB good).2 = Marks.none := congrArg Prod.snd (Requester.partB_idle (q := q.partA) idle good)
  simp [Requester.arrival, idle, ReqState.busy, marks]

theorem Requester.partC_quiet (run : x.state ≠ .run) (hold : x.state ≠ .hold) : q.partC l x v = ({ q with dwell := 0 }, none) := by
  cases state : x.state
  case run => exact absurd state run
  case hold => exact absurd state hold
  all_goals simp [Requester.partC, state]

theorem Requester.partC_fixed (carries : x.state = .run ∨ x.state = .hold) (mode : x.mode = .fixed) :
    q.partC l x v = (q.useWindow v).decideFixed x.fixedProfile (decide (x.state = .run)) v := by
  rcases carries with state | state <;> simp [Requester.partC, state, mode]

theorem Requester.partC_adaptive (carries : x.state = .run ∨ x.state = .hold) (mode : x.mode = .adaptive) :
    q.partC l x v = (q.useWindow v).decideAdaptive l (decide (x.state = .run)) v := by
  rcases carries with state | state <;> simp [Requester.partC, state, mode]

/-! ### The decision in ADAPTIVE mode, case by case (R69 to R72) -/

variable {running : Bool}

theorem Requester.decideAdaptive_above (h : v.hi < q.inbound) :
    q.decideAdaptive l running v = ({ q with dwell := 0 }.issue ⟨.step, v.hi⟩, some ⟨.step, v.hi⟩) := by
  simp [Requester.decideAdaptive, h]

theorem Requester.decideAdaptive_below (hi : q.inbound ≤ v.hi) (run : running = true) (h : q.inbound < v.lo) :
    q.decideAdaptive l running v = ({ q with dwell := 0 }.issue ⟨.step, v.lo⟩, some ⟨.step, v.lo⟩) := by
  simp [Requester.decideAdaptive, Nat.not_lt.2 hi, run, h]

theorem Requester.decideAdaptive_downshift (hi : q.inbound ≤ v.hi) (lo : v.lo < q.inbound) (h : v.quality < (l.holdAt q.inbound : Int)) :
    q.decideAdaptive l running v =
      ({ q with dwell := 0, holdOff := q.th }.issue (downshiftRequest l q.gu v q.inbound), some (downshiftRequest l q.gu v q.inbound)) := by
  simp [Requester.decideAdaptive, Nat.not_lt.2 hi, Nat.not_lt.2 (Nat.le_of_lt lo), downshiftHolds, lo, h]

theorem downshiftHolds_iff (l : Ladder) (v : View) (k : Nat) :
    downshiftHolds l v k = true ↔ v.lo < k ∧ v.quality < (l.holdAt k : Int) := by
  rw [downshiftHolds, Bool.and_eq_true, decide_eq_true_iff, decide_eq_true_iff]

theorem Requester.decideAdaptive_upshift (lo : v.lo ≤ q.inbound) (holds : ¬ downshiftHolds l v q.inbound = true)
    (hi : q.inbound < v.hi) (run : running = true) : q.decideAdaptive l running v = q.upshift l v := by
  simp [Requester.decideAdaptive, Nat.not_lt.2 (Nat.le_of_lt hi), Nat.not_lt.2 lo, holds, hi, run]

theorem Requester.decideAdaptive_stay (hi : q.inbound ≤ v.hi) (holds : ¬ downshiftHolds l v q.inbound = true)
    (h : running = false ∨ v.lo ≤ q.inbound ∧ q.inbound = v.hi) : q.decideAdaptive l running v = ({ q with dwell := 0 }, none) := by
  rcases h with run | ⟨lo, top⟩
  · simp [Requester.decideAdaptive, Nat.not_lt.2 hi, holds, run]
  · simp [Requester.decideAdaptive, Nat.not_lt.2 hi, Nat.not_lt.2 lo, holds, Nat.not_lt.2 (Nat.le_of_eq top.symm)]

theorem Requester.upshift_waits (h : q.holdOff ≠ 0 ∨ v.quality < ((l.at (q.inbound + 1)).enter : Int)) :
    q.upshift l v = ({ q with dwell := 0 }, none) := by
  by_cases off : q.holdOff = 0
  · simp [Requester.upshift, off, h.resolve_left (not_not.2 off)]
  · simp [Requester.upshift, off]

theorem Requester.upshift_counts (off : q.holdOff = 0) (enter : ((l.at (q.inbound + 1)).enter : Int) ≤ v.quality)
    (h : q.dwell + 1 < q.nu) : q.upshift l v = ({ q with dwell := q.dwell + 1 }, none) := by
  simp [Requester.upshift, off, not_lt.2 enter, h]

theorem Requester.upshift_issues (off : q.holdOff = 0) (enter : ((l.at (q.inbound + 1)).enter : Int) ≤ v.quality)
    (h : q.nu ≤ q.dwell + 1) :
    q.upshift l v = ({ q with dwell := 0 }.issue ⟨.step, q.inbound + 1⟩, some ⟨.step, q.inbound + 1⟩) := by
  simp [Requester.upshift, off, not_lt.2 enter, Nat.not_lt.2 h]

theorem Requester.decideFixed_eq (q : Requester) (fixed : Nat) (running : Bool) (v : View) :
    q.decideFixed fixed running v =
      if (running = true ∧ max v.lo (min fixed v.hi) ≠ q.inbound) ∨ max v.lo (min fixed v.hi) < q.inbound then
        ({ q with dwell := 0 }.issue ⟨.step, max v.lo (min fixed v.hi)⟩, some ⟨.step, max v.lo (min fixed v.hi)⟩)
      else ({ q with dwell := 0 }, none) := by
  simp [Requester.decideFixed]

end

/-- Settles O46: part c by the carrier state, the mode and the case of its decision. -/
theorem idleRequesterDecides : Obligations.IdleRequesterDecides := by
  unfold Obligations.IdleRequesterDecides
  intro q l x v good idle k q' held enter running quiet asks m
  let p : Requester := (q.partA.partB good).1
  have made (d : Requester × Option Request) (h : p.partC l x v = d) : m = (d.1, { Marks.none with issued := d.2 }) := by
    rw [← h]
    exact Requester.arrival_idle idle good
  have parts : p = { q with
      holdOff := q.holdOff - 1
      inbound := k
      dwell := if k = q.inbound then q.dwell else 0
      unsolicited := if k = q.inbound then q.unsolicited else bump q.unsolicited } :=
    congrArg Prod.fst (Requester.partB_idle (q := q.partA) idle good)
  refine ⟨fun run hold => ?_, fun carries => ⟨fun mode => ?_, fun mode => ?_⟩⟩
  · rw [made _ (Requester.partC_quiet run hold), parts]
    have kept : q'.decidedLo = q.decidedLo := if_neg (not_or.2 ⟨run, hold⟩)
    simp only [quiet, kept]
    rfl
  · have uses : p.useWindow v = q' := by
      rw [parts]
      simp only [Requester.useWindow, q', if_pos carries]
    have decides := Requester.partC_fixed (q := p) (l := l) (v := v) carries mode
    rw [uses, Requester.decideFixed_eq] at decides
    intro t
    refine ⟨fun h => ?_, fun h => ?_⟩
    · exact made _ (decides.trans (if_pos h))
    · exact made _ (decides.trans (if_neg h))
  · have uses : p.useWindow v = q' := by
      rw [parts]
      simp only [Requester.useWindow, q', if_pos carries]
    have decides := Requester.partC_adaptive (q := p) (l := l) (v := v) carries mode
    rw [uses] at decides
    have holds : downshiftHolds l v k = true ↔ v.lo < k ∧ v.quality < held k := by
      rw [downshiftHolds_iff, Ladder.holdAt_cast]
    refine ⟨fun above => ?_, fun hi run below => ?_, fun hi lo low => ?_, fun lo high hi run => ⟨fun h => ?_, fun off enough few => ?_, fun off enough many => ?_⟩, fun hi high h => ?_⟩
    · exact made _ (decides.trans (Requester.decideAdaptive_above above))
    · exact made _ (decides.trans (Requester.decideAdaptive_below hi run below))
    · have shifts := Requester.decideAdaptive_downshift (q := q') (running := decide (x.state = .run)) hi lo
        (by rw [Ladder.holdAt_cast]; exact low)
      obtain ⟨least, most, landed, passed⟩ := landing_spec l v.quality v.lo (k - v.lo)
      refine ⟨landing l v.quality v.lo (k - v.lo), least, ?_, ?_, fun i above below => ?_, made _ (decides.trans shifts)⟩
      · omega
      · rwa [Ladder.holdAt_cast] at landed
      · have := passed i above (by omega)
        rwa [Ladder.holdAt_cast] at this
    · exact made _ ((decides.trans (Requester.decideAdaptive_upshift lo (holds.not.2 high) hi run)).trans (Requester.upshift_waits h))
    · exact made _ ((decides.trans (Requester.decideAdaptive_upshift lo (holds.not.2 high) hi run)).trans
        (Requester.upshift_counts off enough few))
    · have issued := made _ ((decides.trans (Requester.decideAdaptive_upshift lo (holds.not.2 high) hi run)).trans
        (Requester.upshift_issues off enough many))
      exact issued.trans (congrArg (asks ⟨.step, k + 1⟩) off)
    · exact made _ (decides.trans (Requester.decideAdaptive_stay hi (holds.not.2 high) h))

/-! ### A Requester that an arrival finds with a request outstanding -/

section
variable {q p : Requester} {l : Ladder} {x : Control} {v : View} {good : Option RxHeader} {h : RxHeader} {r : Request} {answer : Bool}

theorem ReqState.busy_of_outstanding {st : ReqState} (h : st.outstanding = some r) : st.busy = true := by
  cases st <;> first | rfl | cases h

/-- The downshift of R71 whose kind is URGENT. -/
theorem downshiftRequest_urgent {gu : Int} {k : Nat} (h : (downshiftRequest l gu v k).kind = .urgent) :
    downshiftRequest l gu v k = ⟨.urgent, landing l v.quality v.lo (k - v.lo)⟩ := by
  rw [← h]
  rfl

theorem downshiftRequest_urgent_iff {gu : Int} {k : Nat} :
    (downshiftRequest l gu v k).kind = .urgent ↔ 2 ≤ k - landing l v.quality v.lo (k - v.lo) ∨ v.slope ≤ gu := by
  simp only [downshiftRequest]
  split <;> simp_all

/-- Part d: an outstanding STEP gives way to an URGENT downshift in ADAPTIVE mode in RUN and HOLD (R75), read by the window in use. -/
theorem Requester.partD_eq (out : p.state.outstanding = some r) :
    p.partD l x v =
      let j := landing l v.quality p.decidedLo (p.inbound - p.decidedLo)
      if r.kind = .step ∧ x.mode = .adaptive ∧ (x.state = .run ∨ x.state = .hold) ∧ p.decidedLo < p.inbound ∧
          v.quality < (l.holdAt p.inbound : Int) ∧ (2 ≤ p.inbound - j ∨ v.slope ≤ p.gu) then
        ({ p with dwell := 0, holdOff := p.th, supersedes := bump p.supersedes }.issue ⟨.urgent, j⟩, some ⟨.urgent, j⟩)
      else ({ p with dwell := 0 }, none) := by
  have now : p.supersedesNow l x (p.windowInUse v) = true ↔
      r.kind = .step ∧ x.mode = .adaptive ∧ (x.state = .run ∨ x.state = .hold) ∧ p.decidedLo < p.inbound ∧
        v.quality < (l.holdAt p.inbound : Int) ∧ (downshiftRequest l p.gu (p.windowInUse v) p.inbound).kind = .urgent := by
    simp only [Requester.supersedesNow, out, Bool.and_eq_true, decide_eq_true_iff, CarrierState.carries_iff, downshiftHolds_iff,
      and_assoc]
    rfl
  by_cases supersedes : p.supersedesNow l x (p.windowInUse v) = true
  · obtain ⟨step, mode, carries, lo, low, urgent⟩ := now.1 supersedes
    have holds := downshiftRequest_urgent_iff.1 urgent
    rw [Requester.partD]
    dsimp only
    rw [if_pos supersedes, if_pos ⟨step, mode, carries, lo, low, holds⟩, downshiftRequest_urgent urgent]
    rfl
  · rw [Requester.partD]
    dsimp only
    rw [if_neg supersedes, if_neg]
    rintro ⟨step, mode, carries, lo, low, holds⟩
    exact supersedes (now.2 ⟨step, mode, carries, lo, low, downshiftRequest_urgent_iff.2 holds⟩)

/-- A request that stands after part b is looked at by part d. -/
theorem Requester.arrival_stands (busy : q.state.busy = true) (part : q.partA.partB good = (p, { Marks.none with answerTaken := answer }))
    (out : p.state.outstanding = some r) :
    q.arrival l x v good =
      ((p.partD l x v).1, { Marks.none with answerTaken := answer, issued := (p.partD l x v).2 }) := by
  simp [Requester.arrival, busy, part, ReqState.busy_of_outstanding out]

/-- A request that ends in part b leaves no decision at this arrival. -/
theorem Requester.arrival_ends {m : Marked} (busy : q.state.busy = true) (part : q.partA.partB good = m)
    (idle : m.1.state = .idle) : q.arrival l x v good = m := by
  have free : m.1.state.busy = false := by rw [idle]; rfl
  simp [Requester.arrival, busy, part, free]

/-! ### Part b while a request is outstanding (R79 to R84) -/

theorem Requester.partB_some (q : Requester) (h : RxHeader) :
    q.partB (some h) = headerAuthority (endPending (q.takeAnswer h) h).1 (endPending (q.takeAnswer h) h).2 h :=
  rfl

theorem headerAuthority_same {m : Marked} {ended : Bool} (same : h.profile = m.1.inbound) : headerAuthority m ended h = m := if_pos same

/-- Header authority while REQUESTING, or in IDLE where no PENDING ended at this header: a changed profile is unsolicited. -/
theorem headerAuthority_unsolicited {m : Marked} {ended : Bool}
    (state : m.1.state = .idle ∧ ended = false ∨ ∃ r, m.1.state = .requesting r) :
    headerAuthority m ended h =
      ({ m.1 with
         inbound := h.profile
         dwell := if h.profile = m.1.inbound then m.1.dwell else 0
         unsolicited := if h.profile = m.1.inbound then m.1.unsolicited else bump m.1.unsolicited }, m.2) := by
  by_cases same : h.profile = m.1.inbound
  · rw [headerAuthority_same same, if_pos same, if_pos same, same]
  · rcases state with ⟨idle, new⟩ | ⟨r, requesting⟩
    · simp [headerAuthority, same, idle, new]
    · simp [headerAuthority, same, requesting]

/-- Header authority after a PENDING that ended at this header counts nothing more. -/
theorem headerAuthority_ended {m : Marked} (idle : m.1.state = .idle) :
    headerAuthority m true h =
      ({ m.1 with inbound := h.profile, dwell := if h.profile = m.1.inbound then m.1.dwell else 0 }, m.2) := by
  by_cases same : h.profile = m.1.inbound
  · rw [headerAuthority_same same, if_pos same, same]
  · simp [headerAuthority, same, idle]

/-- A profile that changes before SF ends PENDING as a mismatch (R84). -/
theorem headerAuthority_early {m : Marked} {ended : Bool} {g : Nat} {sf : FrameNo} (pending : m.1.state = .pending r g sf)
    (changed : h.profile ≠ m.1.inbound) :
    headerAuthority m ended h =
      ({ m.1 with inbound := h.profile, dwell := 0, state := .idle, mismatches := bump m.1.mismatches },
        { m.2 with mismatch := true }) := by
  simp [headerAuthority, changed, pending]

theorem endPending_of_other {m : Marked} (other : ∀ r g sf, m.1.state ≠ .pending r g sf) : endPending m h = (m, false) := by
  rcases state : m.1.state with _ | r | ⟨r, g, sf⟩
  · simp [endPending, state]
  · simp [endPending, state]
  · exact absurd state (other r g sf)

theorem endPending_before {m : Marked} {g : Nat} {sf : FrameNo} (pending : m.1.state = .pending r g sf) (early : reached h.fn sf = false) :
    endPending m h = (m, false) := by
  simp [endPending, pending, early]

/-- PENDING ends at a header that has reached SF: the switch is completed by the profile granted, and mismatched by any other (R83). -/
theorem endPending_reached {m : Marked} {g : Nat} {sf : FrameNo} (pending : m.1.state = .pending r g sf) (reach : reached h.fn sf = true) :
    endPending m h =
      (if h.profile = g then
        (if m.1.inbound < g then { m.1 with state := .idle, upshifts := bump m.1.upshifts }
         else { m.1 with state := .idle, downshifts := bump m.1.downshifts }, { m.2 with completed := true })
      else ({ m.1 with state := .idle, mismatches := bump m.1.mismatches }, { m.2 with mismatch := true }), true) := by
  by_cases granted : h.profile = g <;> simp [endPending, pending, reach, granted]

/-- Steps b2 and b3 at a header that has reached SF. -/
theorem headerAuthority_reached {m : Marked} {g : Nat} {sf : FrameNo} (pending : m.1.state = .pending r g sf) (reach : reached h.fn sf = true) :
    headerAuthority (endPending m h).1 (endPending m h).2 h =
      let p : Requester :=
        { m.1 with state := .idle, inbound := h.profile, dwell := if h.profile = m.1.inbound then m.1.dwell else 0 }
      if h.profile = g then
        (if m.1.inbound < g then { p with upshifts := bump m.1.upshifts } else { p with downshifts := bump m.1.downshifts },
          { m.2 with completed := true })
      else ({ p with mismatches := bump m.1.mismatches }, { m.2 with mismatch := true }) := by
  rw [endPending_reached pending reach]
  by_cases granted : h.profile = g
  · simp only [if_pos granted]
    by_cases up : m.1.inbound < g
    · simp only [if_pos up]
      exact headerAuthority_ended rfl
    · simp only [if_neg up]
      exact headerAuthority_ended rfl
  · simp only [if_neg granted]
    exact headerAuthority_ended rfl

/-! ### The taking of an answer (R80 to R82) -/

theorem Requester.takeAnswer_none (requesting : q.state = .requesting r) (no : h.verdict = none ∨ h.ansTag ≠ q.tag) :
    q.takeAnswer h = (q, Marks.none) := by
  by_cases tag : h.ansTag = q.tag
  · simp [Requester.takeAnswer, requesting, tag, no.resolve_right (not_not.2 tag)]
  · simp [Requester.takeAnswer, requesting, tag]

theorem Requester.takeAnswer_refuse (requesting : q.state = .requesting r) (tag : h.ansTag = q.tag) (verdict : h.verdict = some .refuse) :
    q.takeAnswer h =
      ({ q with timer := 0, state := .idle, holdOff := q.th, refusals := bump q.refusals }, { Marks.none with answerTaken := true }) := by
  simp [Requester.takeAnswer, requesting, tag, verdict]

theorem Requester.takeAnswer_busy (requesting : q.state = .requesting r) (tag : h.ansTag = q.tag) (verdict : h.verdict = some .busy) :
    q.takeAnswer h =
      ({ q with timer := 0, state := .idle, busyAnswers := bump q.busyAnswers }, { Marks.none with answerTaken := true }) := by
  simp [Requester.takeAnswer, requesting, tag, verdict]

theorem Requester.takeAnswer_accept {g : Nat} {sf : FrameNo} (requesting : q.state = .requesting r) (tag : h.ansTag = q.tag)
    (verdict : h.verdict = some (.accept g sf)) :
    q.takeAnswer h =
      ({ q with timer := 0, state := if g = q.inbound then .idle else .pending r g sf }, { Marks.none with answerTaken := true }) := by
  simp [Requester.takeAnswer, requesting, tag, verdict]

theorem Requester.takeAnswer_pending {g : Nat} {sf : FrameNo} (pending : q.state = .pending r g sf) : q.takeAnswer h = (q, Marks.none) := by
  simp [Requester.takeAnswer, pending]

end

/-- Settles O47: part b by the request state and the header, then part d for a request that still stands. -/
theorem outstandingRequestAtArrival : Obligations.OutstandingRequestAtArrival := by
  unfold Obligations.OutstandingRequestAtArrival
  intro q l x v stands follows unsolicited ends early
  have standing {p : Requester} {good : Option RxHeader} {r : Request} {answer : Bool} (busy : q.state.busy = true)
      (part : q.partA.partB good = (p, { Marks.none with answerTaken := answer })) (out : p.state.outstanding = some r)
      (same : (p.decidedLo, p.gu, p.th, p.supersedes, p.tag, p.tr, p.urgentIssued) =
        (q.decidedLo, q.gu, q.th, q.supersedes, q.tag, q.tr, q.urgentIssued)) :
      q.arrival l x v good = stands p r answer := by
    simp only [Prod.mk.injEq] at same
    obtain ⟨lo, gu, th, supersedes, tag, tr, urgentIssued⟩ := same
    rw [Requester.arrival_stands busy part out, Requester.partD_eq out]
    simp only [stands, Requester.issue, lo, gu, th, supersedes, tag, tr, urgentIssued]
    split <;> rfl
  have freed (h : RxHeader) (g : Nat) (answer : Bool) (timer : Nat) : (ends h g answer timer).1.state = .idle := by
    simp only [ends]
    split
    · split <;> rfl
    · rfl
  refine ⟨fun r out => ?_, fun r h requesting => ?_, fun r g sf h pending => ?_⟩
  · exact standing (ReqState.busy_of_outstanding out) rfl out rfl
  · have busy : q.state.busy = true := by rw [requesting]; rfl
    refine ⟨fun no => ?_, fun tag => ⟨fun refuse => ?_, fun busyAnswer => ?_, fun g sf accept => ⟨fun present => ?_, fun other reach => ?_, fun other before changed => ?_, fun other before kept => ?_⟩⟩⟩
    · refine standing busy ?_ (congrArg ReqState.outstanding requesting) rfl
      rw [Requester.partB_some, Requester.takeAnswer_none (q := q.partA) requesting no,
        endPending_of_other (by simp [Requester.partA, requesting]), headerAuthority_unsolicited (.inr ⟨r, requesting⟩)]
      rfl
    · refine Requester.arrival_ends busy ?_ rfl
      rw [Requester.partB_some, Requester.takeAnswer_refuse (q := q.partA) requesting tag refuse, endPending_of_other (by simp),
        headerAuthority_unsolicited (.inl ⟨rfl, rfl⟩)]
      rfl
    · refine Requester.arrival_ends busy ?_ rfl
      rw [Requester.partB_some, Requester.takeAnswer_busy (q := q.partA) requesting tag busyAnswer, endPending_of_other (by simp),
        headerAuthority_unsolicited (.inl ⟨rfl, rfl⟩)]
      rfl
    all_goals
      have taken := Requester.takeAnswer_accept (q := q.partA) requesting tag accept
    · rw [if_pos (show g = q.partA.inbound from present)] at taken
      refine Requester.arrival_ends busy ?_ rfl
      rw [Requester.partB_some, taken, endPending_of_other (by simp), headerAuthority_unsolicited (.inl ⟨rfl, rfl⟩)]
      rfl
    all_goals rw [if_neg (show ¬ g = q.partA.inbound from other)] at taken
    · have part : q.partA.partB (some h) = ends h g true 0 := by
        rw [Requester.partB_some, taken, headerAuthority_reached rfl reach]
        rfl
      rw [← part]
      exact Requester.arrival_ends busy rfl (part ▸ freed h g true 0)
    · refine Requester.arrival_ends busy ?_ rfl
      rw [Requester.partB_some, taken, endPending_before rfl before, headerAuthority_early rfl changed]
      simp only [early, follows, if_neg changed]
      rfl
    · refine standing busy ?_ rfl rfl
      rw [Requester.partB_some, taken, endPending_before rfl before, headerAuthority_same kept]
      simp only [follows, kept]
      rfl
  · have busy : q.state.busy = true := by rw [pending]; rfl
    have taken := Requester.takeAnswer_pending (q := q.partA) (h := h) pending
    refine ⟨fun reach => ?_, fun before changed => ?_, fun before kept => ?_⟩
    · have part : q.partA.partB (some h) = ends h g false q.timer := by
        rw [Requester.partB_some, taken, headerAuthority_reached pending reach]
        rfl
      rw [← part]
      exact Requester.arrival_ends busy rfl (part ▸ freed h g false q.timer)
    · refine Requester.arrival_ends busy ?_ rfl
      rw [Requester.partB_some, taken, endPending_before pending before, headerAuthority_early pending changed]
      simp only [early, follows, if_neg changed]
      rfl
    · refine standing busy ?_ (congrArg ReqState.outstanding pending) rfl
      rw [Requester.partB_some, taken, endPending_before pending before, headerAuthority_same kept]
      simp only [follows, kept]
      rfl

end Sys2Proof.Machine
end

section
/-! PROOFS. The test pattern and the Test Unit (O49), and History Capture (O50). -/

namespace Sys2Proof.Machine

/-! ### The bits of the test pattern (R150) -/

/-- The bits that the pattern's register gives one after the other. -/
def patternRun (r : BitVec 15) : Nat → List Bool
  | 0 => []
  | n + 1 => patternBit r :: patternRun (patternNext r) n

theorem patternRun_length (n : Nat) (r : BitVec 15) : (patternRun r n).length = n := by
  induction n generalizing r with
  | zero => rfl
  | succ n ih => rw [patternRun, List.length_cons, ih]

theorem patternRun_add (m n : Nat) (r : BitVec 15) : patternRun r (m + n) = patternRun r m ++ patternRun (patternNext^[m] r) n := by
  induction m generalizing r with
  | zero => rw [Nat.zero_add]; rfl
  | succ m ih =>
    rw [Nat.succ_add, patternRun, ih, patternRun, Function.iterate_succ_apply]
    rfl

theorem patternRun_getElem? (n i : Nat) (r : BitVec 15) (h : i < n) : (patternRun r n)[i]? = some (patternBit (patternNext^[i] r)) := by
  induction n generalizing r i with
  | zero => exact absurd h (Nat.not_lt_zero i)
  | succ n ih =>
    rcases i with _ | i
    · rfl
    · rw [patternRun, List.getElem?_cons_succ, ih i _ (Nat.lt_of_succ_lt_succ h), Function.iterate_succ_apply]

/-- A register that a bit is shifted into. -/
theorem getLsbD_shiftIn {w : Nat} (r : BitVec w) (b : Bool) (i : Nat) (h : i < w) :
    ((r <<< 1) ||| (BitVec.ofBool b).setWidth w).getLsbD i = if i = 0 then b else r.getLsbD (i - 1) := by
  rcases i with _ | i
  · simp [h]
  · simp [h, BitVec.getLsbD_eq_getElem (show i < w by omega)]

/-- The bits of a pattern byte are the next eight bits of the register. -/
theorem bitsMsbFirst_patternBits (r : BitVec 15) : bitsMsbFirst (patternBits 8 r 0#8).1 = patternRun r 8 := by
  simp [bitsMsbFirst, patternBits, patternRun]

theorem patternFrom_bits (n : Nat) (r : BitVec 15) : (patternFrom n r).flatMap bitsMsbFirst = patternRun r (8 * n) := by
  induction n generalizing r with
  | zero => rfl
  | succ n ih =>
    rw [patternFrom, List.flatMap_cons, bitsMsbFirst_patternBits, ih, Nat.mul_succ, Nat.add_comm, patternRun_add]
    rfl

/-- A stage of the register holds the bit that the register gave as many steps before, where it has made that many. -/
theorem patternNext_iterate_getLsbD (n i : Nat) (r : BitVec 15) (h : i < 15) (made : i < n) :
    (patternNext^[n] r).getLsbD i = patternBit (patternNext^[n - 1 - i] r) := by
  induction n generalizing i with
  | zero => exact absurd made (Nat.not_lt_zero i)
  | succ n ih =>
    rw [Function.iterate_succ_apply', patternNext, getLsbD_shiftIn _ _ _ h]
    rcases i with _ | i
    · rfl
    · rw [if_neg (Nat.succ_ne_zero i), Nat.add_sub_cancel, ih i (by omega) (by omega)]
      congr 2
      omega

/-- Each bit after the fifteenth is the exclusive-or of the bits 15 and 14 places before it (R150). -/
theorem patternBit_recurs (i : Nat) (r : BitVec 15) (h : 15 ≤ i) :
    patternBit (patternNext^[i] r) = xor (patternBit (patternNext^[i - 15] r)) (patternBit (patternNext^[i - 14] r)) := by
  rw [patternBit, patternNext_iterate_getLsbD i 14 r (by omega) (by omega), patternNext_iterate_getLsbD i 13 r (by omega) (by omega)]
  rfl

/-- The first fifteen bits of the pattern. -/
theorem patternBit_starts : ∀ i : Fin 15, patternBit (patternNext^[i.val] (BitVec.allOnes 15)) = decide (i.val = 14) := by decide

/-! ### The bit errors of a test frame (R152) -/

theorem countP_range_add (p : Nat → Bool) (m n : Nat) :
    (List.range (m + n)).countP p = (List.range m).countP p + (List.range n).countP (fun i => p (m + i)) := by
  rw [List.range_add, List.countP_append, List.countP_map]
  rfl

/-- The places at which two runs of bits differ. -/
theorem count_zipWith_xor (u v : List Bool) (h : u.length = v.length) :
    (List.zipWith xor u v).count true = (List.range v.length).countP (fun i => decide (u[i]? ≠ v[i]?)) := by
  induction v generalizing u with
  | nil => simp
  | cons b v ih =>
    rcases u with _ | ⟨a, u⟩
    · cases h
    · have rest := ih u (Nat.succ.inj h)
      rw [List.length_cons, Nat.add_comm, countP_range_add]
      simp only [List.zipWith_cons_cons, List.count_cons, rest, Nat.add_comm 1, List.getElem?_cons_succ]
      cases a <;> cases b <;> simp [Nat.add_comm]

theorem bitsMsbFirst_xor (a q : Byte) : bitsMsbFirst (a ^^^ q) = List.zipWith xor (bitsMsbFirst a) (bitsMsbFirst q) := by
  simp [bitsMsbFirst]

theorem bitDifferences_eq (l pat : List Byte) (h : l.length = pat.length) :
    bitDifferences l pat = (List.zipWith xor (l.flatMap bitsMsbFirst) (pat.flatMap bitsMsbFirst)).count true := by
  induction pat generalizing l with
  | nil => simp [bitDifferences]
  | cons q pat ih =>
    rcases l with _ | ⟨a, l⟩
    · cases h
    · rw [bitDifferences, popcount, ih l (Nat.succ.inj h), List.flatMap_cons, List.flatMap_cons, List.zipWith_append (by rfl),
        List.count_append, bitsMsbFirst_xor]

theorem flatMap_bits_length (l : List Byte) : (l.flatMap bitsMsbFirst).length = 8 * l.length := by
  induction l with
  | nil => rfl
  | cons a l ih =>
    rw [List.flatMap_cons, List.length_append, ih, List.length_cons]
    show 8 + _ = _
    omega

/-- Whether a bit of a test frame is an error: a bit of a valid slot that differs from the pattern, and every bit of a slot that is not
valid or was not handed over (R152). -/
def wrongBit (slots : List InboundSlot) (pattern : List Bool) (n : Nat) : Bool :=
  match slots[n / 544]? with
  | some sl => !sl.valid || decide ((sl.bytes.flatMap bitsMsbFirst)[n % 544]? ≠ pattern[n]?)
  | none => true

/-- The bits of one slot: those of the first slot handed over, against the first 68 bytes of the pattern. -/
theorem countP_wrongBit_slot (sl : InboundSlot) (rest : List InboundSlot) (pat : List Byte) (hs : sl.bytes.length = 68) (hp : 68 ≤ pat.length) :
    (List.range 544).countP (wrongBit (sl :: rest) (pat.flatMap bitsMsbFirst)) =
      if sl.valid then bitDifferences sl.bytes (pat.take 68) else 544 := by
  have first (n : Nat) (h : n < 544) : wrongBit (sl :: rest) (pat.flatMap bitsMsbFirst) n =
      (!sl.valid || decide ((sl.bytes.flatMap bitsMsbFirst)[n]? ≠ ((pat.take 68).flatMap bitsMsbFirst)[n]?)) := by
    have bits : (pat.flatMap bitsMsbFirst)[n]? = ((pat.take 68).flatMap bitsMsbFirst)[n]? := by
      have split : pat.flatMap bitsMsbFirst = (pat.take 68).flatMap bitsMsbFirst ++ (pat.drop 68).flatMap bitsMsbFirst := by
        rw [← List.flatMap_append, List.take_append_drop]
      rw [split, List.getElem?_append_left]
      rw [flatMap_bits_length, List.length_take]
      omega
    rw [wrongBit, Nat.div_eq_of_lt h, Nat.mod_eq_of_lt h, ← bits]
    rfl
  have lengths : sl.bytes.length = (pat.take 68).length := by rw [List.length_take]; omega
  rw [List.countP_congr (fun n hn => by rw [first n (List.mem_range.1 hn)])]
  rcases valid : sl.valid
  · simp
  · rw [if_pos rfl, bitDifferences_eq _ _ lengths, count_zipWith_xor _ _ (by rw [flatMap_bits_length, flatMap_bits_length, lengths]),
      flatMap_bits_length, ← lengths, hs]
    simp

/-- The bits behind the first slot are those of the other slots, against the pattern behind 68 bytes. -/
theorem wrongBit_next (slots : List InboundSlot) (pat : List Byte) (hp : 68 ≤ pat.length) (n : Nat) :
    wrongBit slots (pat.flatMap bitsMsbFirst) (544 + n) = wrongBit slots.tail ((pat.drop 68).flatMap bitsMsbFirst) n := by
  have bits : (pat.flatMap bitsMsbFirst)[544 + n]? = ((pat.drop 68).flatMap bitsMsbFirst)[n]? := by
    have split : pat.flatMap bitsMsbFirst = (pat.take 68).flatMap bitsMsbFirst ++ (pat.drop 68).flatMap bitsMsbFirst := by
      rw [← List.flatMap_append, List.take_append_drop]
    have first : ((pat.take 68).flatMap bitsMsbFirst).length = 544 := by
      rw [flatMap_bits_length, List.length_take]
      omega
    rw [split, List.getElem?_append_right (by omega), first, Nat.add_sub_cancel_left]
  have slot : slots[(544 + n) / 544]? = slots.tail[n / 544]? := by
    rw [show (544 + n) / 544 = n / 544 + 1 by omega, List.getElem?_tail]
  rw [wrongBit, wrongBit, bits, slot, Nat.add_mod_left]

/-- The bit errors of a test frame are the bits of its profile's slots that are wrong. -/
theorem testBitErrors_eq (n : Nat) (slots : List InboundSlot) (pat : List Byte) (hs : ∀ sl ∈ slots, sl.bytes.length = 68)
    (hp : pat.length = n * 68) :
    testBitErrors n slots pat = (List.range (n * 544)).countP (wrongBit slots (pat.flatMap bitsMsbFirst)) := by
  induction n generalizing slots pat with
  | zero => simp [testBitErrors]
  | succ n ih =>
    have rest := ih slots.tail (pat.drop 68) (fun sl h => hs sl (List.mem_of_mem_tail h)) (by rw [List.length_drop]; omega)
    rw [show (n + 1) * 544 = 544 + n * 544 by omega, countP_range_add]
    have next : (List.range (n * 544)).countP (fun i => wrongBit slots (pat.flatMap bitsMsbFirst) (544 + i)) =
        testBitErrors n slots.tail (pat.drop 68) := by
      rw [rest]
      exact congrArg (fun p => List.countP p _) (funext fun i => wrongBit_next slots pat (by omega) i)
    rw [next]
    rcases slots with _ | ⟨sl, slots⟩
    · rw [testBitErrors]
      have all : (List.range 544).countP (wrongBit [] (pat.flatMap bitsMsbFirst)) = 544 :=
        (List.countP_eq_length.2 fun _ _ => rfl).trans List.length_range
      rw [all]
      rfl
    · rw [testBitErrors, countP_wrongBit_slot sl slots pat (hs sl List.mem_cons_self) (by omega)]
      rfl

theorem patternBytes_bits (n : Nat) : (patternBytes n).flatMap bitsMsbFirst = patternRun (BitVec.allOnes 15) (8 * n) := patternFrom_bits n _

theorem patternBytes_length (n : Nat) : (patternBytes n).length = n := by
  have bits := congrArg List.length (patternBytes_bits n)
  rw [flatMap_bits_length, patternRun_length] at bits
  omega

/-! ### The Test Unit at an arrival -/

/-- A test frame that is compared with the pattern: the row of its profile counts it and its bit errors (R152). -/
theorem TestUnit.arrival_checked (t : TestUnit) (l : Ladder) {h : RxHeader} (slots : List InboundSlot) (test : h.isTest = true)
    (readable : h.unreadable = false) :
    t.arrival .test l (some h) slots =
      { t with
        rows :=
          t.rows.setIfInBounds h.profile
            ((tableAt t.rows h.profile ResultRow.zero).checkFrame
              (testBitErrors (l.at h.profile).capacity slots (patternBytes ((l.at h.profile).capacity * 68)))) } := by
  simp [TestUnit.arrival, test, readable]

theorem ResultRow.checkFrame_eq (r : ResultRow) (errors : Nat) :
    r.checkFrame errors =
      { checked := bump r.checked
        errored := if 0 < errors then bump r.errored else r.errored
        bitErrors := bumpBy r.bitErrors errors } := by
  rcases errors with _ | n <;> simp [ResultRow.checkFrame]

/-- Settles O49: the pattern by its register, and the Test Unit by the carrier state and the header. -/
theorem testPatternAndTestFrames : Obligations.TestPatternAndTestFrames := by
  unfold Obligations.TestPatternAndTestFrames
  refine ⟨fun n => ?_, fun t l slots => ⟨rfl, fun st other => ?_, fun h => ?_⟩⟩
  · intro bits
    have run : bits = patternRun (BitVec.allOnes 15) (8 * n) := patternBytes_bits n
    have bit (i : Nat) (h : i < 8 * n) : bits[i]? = some (patternBit (patternNext^[i] (BitVec.allOnes 15))) := by
      rw [run, patternRun_getElem? _ _ _ h]
    have before (i : Nat) (h : i < 8 * n) : bits.getD i false = patternBit (patternNext^[i] (BitVec.allOnes 15)) := by
      rw [List.getD_eq_getElem?_getD, bit i h, Option.getD_some]
    refine ⟨by rw [run, patternRun_length], fun i first inside => ?_, fun i later inside => ?_⟩
    · rw [bit i inside, patternBit_starts ⟨i, first⟩]
    · rw [bit i inside, patternBit_recurs i _ later, before _ (by omega), before _ (by omega)]
  · simp [TestUnit.arrival, other]
  · intro test
    have isTest : h.isTest = true ↔ test := h.isTest_iff
    refine ⟨fun st other => ?_, fun no => ?_, fun yes unreadable => ?_, fun yes readable whole => ?_⟩
    · simp [TestUnit.arrival, other, isTest]
    · simp [TestUnit.arrival, isTest, no]
    · simp [TestUnit.arrival, isTest, yes, unreadable]
    · intro cap pattern wrong errors row
      have counted : testBitErrors cap slots (patternBytes (cap * 68)) = errors := by
        rw [testBitErrors_eq _ _ _ whole (patternBytes_length _), List.countP_eq_length_filter]
        rfl
      rw [TestUnit.arrival_checked t l slots (isTest.2 yes) readable, ResultRow.checkFrame_eq]
      rw [show testBitErrors (l.at h.profile).capacity slots (patternBytes ((l.at h.profile).capacity * 68)) = errors from counted]
      rfl

end Sys2Proof.Machine
end

section
/-! PROOFS. History Capture (O50). -/

namespace Sys2Proof.Machine

section
variable {s : State} {c : CarrierId} {o : Observation}

theorem State.capture_of_other (h : c ≠ s.history.carrier) : s.capture c o = s := if_neg h

theorem State.capture_of_closed (h : s.history.state = .idle ∨ s.history.state = .done) : s.capture c o = s := by
  have closed : decide (s.history.state = .post) = false := by rcases h with h | h <;> rw [h] <;> rfl
  simp only [State.capture, History.write_closed h, closed, Bool.false_and, Bool.false_eq_true, if_false, ite_self]

/-- A record of the selected carrier: the ring and what follows from it, with the end where the post records are enough (R161, R163). -/
theorem State.capture_of_selected (h : c = s.history.carrier) :
    s.capture c o =
      if (s.history.write o).state = .post ∧ (s.history.write o).post ≤ (s.history.write o).postRecords then
        { s with history := { s.history.write o with state := .done, cause := .normal } }.signal .captureDone
      else { s with history := s.history.write o } := by
  rw [State.capture, if_pos h]
  simp only [Bool.and_eq_true, decide_eq_true_iff]
  rfl

end

theorem ringAppend_eq (l : List Record) (r : Record) : ringAppend l r = (if l.length < 512 then l else l.drop 1) ++ [r] := by
  simp only [ringAppend, List.drop_one]
  by_cases room : l.length < 512
  · rw [if_pos room, if_neg (show ¬ Config.ringSize ≤ l.length from Nat.not_le.2 room)]
  · rw [if_neg room, if_pos (show Config.ringSize ≤ l.length from Nat.not_lt.1 room)]

/-- The FN out of order mark as a distance of at least half the numbers (R161). -/
theorem History.outOfOrder_eq (y : History) (fn : Option FrameNo) :
    y.outOfOrder fn = match fn, y.lastFn with | some a, some b => decide (2048 ≤ (a - (b + 1)).toNat) | _, _ => false := by
  rcases fn with _ | a
  · rfl
  · rcases h : y.lastFn with _ | b
    · simp [History.outOfOrder, h]
    · simp [History.outOfOrder, h, reached, ← decide_not]

theorem or_eq_if_none (a b : Option FrameNo) : a.or b = if a = none then b else a := by cases a <;> rfl

/-- A record that ends the capture: the post records are enough once it is counted. -/
def History.endsNext (y : History) : Prop :=
  (y.state = .armed ∧ y.trigger = .immediate ∧ y.post ≤ 1) ∨ (y.state = .post ∧ y.post ≤ y.postRecords + 1)

theorem History.write_ends {y : History} (h : y.endsNext) (o : Observation) :
    (y.write o).state = .post ∧ (y.write o).post ≤ (y.write o).postRecords := by
  rcases h with ⟨armed, immediate, few⟩ | ⟨post, few⟩
  · rw [History.write_armed armed, immediate]
    exact ⟨rfl, few⟩
  · rw [History.write_post post]
    exact ⟨post, few⟩

theorem State.capture_ends {s : State} (h : s.history.endsNext) (o : Observation) :
    ((s.capture s.history.carrier o).history.state, (s.capture s.history.carrier o).history.cause) = (.done, .normal) ∧
      (s.capture s.history.carrier o).alert.isSet .captureDone = true := by
  rw [State.capture_of_selected rfl, if_pos (History.write_ends h o)]
  exact ⟨rfl, Alert.isSet_raise_same _ _⟩

/-- What an arrival leaves at History Capture is what the record of step 6 leaves, and so is a latch that the record sets. -/
theorem State.inbound_capture {s : State} {c : CarrierId} (on : (s.car c).control.state ≠ .off) (f : InboundFrame) (taken : Nat) :
    ∃ (u : State) (o : Observation), u.history = s.history ∧ (s.inbound c f taken).history = (u.capture c o).history ∧
      ∀ l, (u.capture c o).alert.isSet l = true → (s.inbound c f taken).alert.isSet l = true := by
  rw [State.inbound_eq on]
  refine ⟨_, _, ?_, State.takeItems_history _ _ _, fun l h => State.takeItems_isSet _ _ _ _ h⟩
  simp [State.signalMarks]

/-- Settles O50: the record by the capture state, and the arrival that ends the capture. -/
theorem captureRecordsArrival : Obligations.CaptureRecordsArrival := by
  unfold Obligations.CaptureRecordsArrival
  refine ⟨fun s c o => ?_, fun s f taken live on ends => ?_⟩
  · intro y r fires ring last done
    have record : y.recordOf o = r := by
      rw [History.recordOf, History.outOfOrder_eq] <;> rfl
    have fired : triggers y.trigger (y.recordOf o) = fires := by
      simp only [fires]
      cases y.trigger <;> rfl
    have stored (x : Record) : ringAppend y.ring x = ring x := ringAppend_eq y.ring x
    have heard : o.fn.or y.lastFn = last := or_eq_if_none o.fn y.lastFn
    refine ⟨fun h => ?_, fun here armed quiet => ?_, fun here armed fire => ?_, fun here post => ?_⟩
    · rcases h with other | closed
      · exact State.capture_of_other other
      · exact State.capture_of_closed closed
    all_goals rw [State.capture_of_selected here]
    · have written : s.history.write o = { y with ring := ring r, lastFn := last } := by
        rw [History.write_armed armed, fired, quiet, record, stored r, heard] <;> rfl
      rw [written, if_neg]
      rintro ⟨post, -⟩
      exact absurd (armed.symm.trans post) (by decide)
    · have written : s.history.write o =
          { y with ring := ring { r with trigger := true }, lastFn := last, state := .post, postRecords := 1 } := by
        rw [History.write_armed armed, fired, fire, record, stored { r with trigger := true }, heard] <;> rfl
      rw [written]
      simp only [true_and]
      rfl
    · have written : s.history.write o = { y with ring := ring r, lastFn := last, postRecords := y.postRecords + 1 } := by
        rw [History.write_post post, record, stored r, heard]
      rw [written]
      have posted : y.state = .post := post
      simp only [posted, true_and]
      rfl
  · have onAfter : ((s.completeFillOf s.history.carrier).car s.history.carrier).control.state ≠ .off := by
      rwa [State.car_completeFillOf_control]
    obtain ⟨u, o, kept, recorded, latches⟩ := State.inbound_capture onAfter f taken
    rw [State.completeFillOf_history] at kept
    have done := State.capture_ends (s := u) (by rw [kept]; exact ends) o
    rw [show u.history.carrier = s.history.carrier by rw [kept], ← recorded] at done
    obtain ⟨ended, latched⟩ := done
    have open_ : s.history.state ≠ .done := by
      rcases ends with ⟨armed, -⟩ | ⟨post, -⟩
      · rw [armed]; decide
      · rw [post]; decide
    refine ⟨s.arrive s.history.carrier f taken, ?_, exec_inboundFrameArrival live, ended, latches _ latched⟩
    refine (State.unlessHeld_live live _).trans (congrArg _ (if_pos ?_))
    rw [show (s.arrive s.history.carrier f taken).history.state = .done from congrArg Prod.fst ended, decide_eq_true open_]
    rfl

end Sys2Proof.Machine
end

section
/-! PROOFS. The Resequencer's events (O51, O52, O53): segment arrivals, delivery, loss marks and the gap timer. -/

namespace Sys2Proof.Machine

/-! ### The item that reaches the Resequencer -/

section
variable {s : State} {c : CarrierId} {i : Item} {g : Segment} {q : SeqNo} {rest : List Item}

theorem State.dropItem_eq (h : (s.car c).lane.handover = i :: rest) :
    s.dropItem c = s.setCar c { s.car c with lane := { (s.car c).lane with handover := rest } } := by
  rw [State.dropItem, State.updCar, h]
  rfl

theorem exec_segmentArrival (live : s.live) (h : (s.car c).lane.handover = .segment g :: rest) :
    exec (.segmentArrival c) s = .next ((s.dropItem c).takeSegment g) := by
  rw [show exec (.segmentArrival c) s = execSegmentArrival c s from rfl, execSegmentArrival, State.unlessHeld_live live]
  simp only [State.waiting, h]

theorem exec_lossMark (live : s.live) (h : (s.car c).lane.handover = .loss q :: rest) :
    exec (.lossMark c) s = .next ((s.dropItem c).takeLoss q) := by
  rw [show exec (.lossMark c) s = execLossMark c s from rfl, execLossMark, State.unlessHeld_live live]
  simp only [State.waiting, h]

theorem exec_lateResync (live : s.live) (h : (s.car c).lane.handover = .segment g :: rest)
    (completes : s.reseq.completesLateRun g = true) : exec (.lateResync c) s = .next ((s.dropItem c).takeSegment g) := by
  rw [show exec (.lateResync c) s = execLateResync c s from rfl, execLateResync, State.unlessHeld_live live]
  simp only [State.waiting, h, completes, if_true]

/-! ### A segment in SYNC, by its distance from E (R137) -/

theorem State.takeSegment_unsynced (h : s.reseq.synced = false) : s.takeSegment g = s.segmentUnsynced g := by
  simp [State.takeSegment, h]

theorem State.takeSegment_empty (synced : s.reseq.synced = true) (near : distance g.seq s.reseq.expected < 4096)
    (empty : windowAt s.reseq.window (distance g.seq s.reseq.expected) = none) :
    s.takeSegment g =
      (s.onReseq (fun r =>
        { r with
          window := windowPut (distance g.seq s.reseq.expected) (.segment g) r.window
          stored := bump r.stored, lateRun := 0 })).deliverFrom s.reseq.expected := by
  have before : behind (distance g.seq s.reseq.expected) = false := decide_eq_false (by omega)
  simp [State.takeSegment, State.segmentSynced, synced, before, empty,
    show distance g.seq s.reseq.expected < Config.windowSize from near]

theorem State.takeSegment_occupied (synced : s.reseq.synced = true) (near : distance g.seq s.reseq.expected < 4096)
    (occupied : windowAt s.reseq.window (distance g.seq s.reseq.expected) ≠ none) :
    s.takeSegment g = s.onReseq (fun r => { r with duplicates := bump r.duplicates, lateRun := 0 }) := by
  have before : behind (distance g.seq s.reseq.expected) = false := decide_eq_false (by omega)
  have stands : (windowAt s.reseq.window (distance g.seq s.reseq.expected)).isSome = true := Option.isSome_iff_ne_none.2 occupied
  simp [State.takeSegment, State.segmentSynced, synced, before, stands,
    show distance g.seq s.reseq.expected < Config.windowSize from near]

theorem State.takeSegment_ahead (synced : s.reseq.synced = true) (far : 4096 ≤ distance g.seq s.reseq.expected)
    (ahead : distance g.seq s.reseq.expected < 32768) : s.takeSegment g = (s.onReseq Reseq.resync).segmentUnsynced g := by
  have before : behind (distance g.seq s.reseq.expected) = false := decide_eq_false (by omega)
  simp [State.takeSegment, State.segmentSynced, synced, before,
    show ¬ distance g.seq s.reseq.expected < Config.windowSize from Nat.not_lt.2 far]

theorem State.takeSegment_behind (synced : s.reseq.synced = true) (far : 32768 ≤ distance g.seq s.reseq.expected) :
    s.takeSegment g =
      if s.reseq.k ≤ s.reseq.lateRun + 1 then (s.onReseq Reseq.lateResync).segmentUnsynced g else s.onReseq Reseq.countLate := by
  rw [← State.segmentLate_eq]
  simp [State.takeSegment, State.segmentSynced, synced, show behind (distance g.seq s.reseq.expected) = true from decide_eq_true far]

theorem Reseq.completesLateRun_iff (r : Reseq) (g : Segment) :
    r.completesLateRun g = true ↔ r.synced = true ∧ 32768 ≤ distance g.seq r.expected ∧ r.k ≤ r.lateRun + 1 := by
  simp only [Reseq.completesLateRun, behind, Bool.and_eq_true, decide_eq_true_iff, and_assoc]

end

/-- A resync, written out (R139). -/
theorem Reseq.resync_eq (r : Reseq) :
    r.resync =
      { r with
        resyncLosses := bumpBy r.resyncLosses r.window.length
        window := []
        resyncFrameDiscards := if r.context = none then r.resyncFrameDiscards else bump r.resyncFrameDiscards
        context := none, gap := none, lateRun := 0, synced := false
        resyncs := bump r.resyncs } := by
  rw [Reseq.resync]
  cases r.context <;> rfl

/-- Settles O51: the store in the window, and a segment arrival by its distance from E. -/
theorem segmentArrivalByDistance : Obligations.SegmentArrivalByDistance := by
  unfold Obligations.SegmentArrivalByDistance
  refine ⟨fun w d x ok near empty => ⟨windowPut_ok ok near empty, windowAt_put x empty⟩, fun s c g rest live waits => ?_⟩
  intro s0 r d asUnsync resync
  have dropped : s.dropItem c = s0 := State.dropItem_eq waits
  have arrives : exec (.segmentArrival c) s = .next (s0.takeSegment g) := by rw [exec_segmentArrival live waits, dropped]
  have unsynced (r' : Reseq) (h : r'.expected = r.expected) : State.segmentUnsynced { s0 with reseq := r' } g = asUnsync r' := by
    simp only [State.segmentUnsynced, h]
    rfl
  have resyncs (r' : Reseq) : r'.resync = resync r' := Reseq.resync_eq r'
  refine ⟨fun out => ?_, fun synced => ⟨fun near empty => ?_, fun near occupied => ?_, fun far ahead => ?_, fun far => ?_⟩⟩
  all_goals rw [arrives]
  · rw [State.takeSegment_unsynced (s := s0) out]
    exact congrArg _ (unsynced r rfl)
  · rw [State.takeSegment_empty (s := s0) synced near empty]
    rfl
  · rw [State.takeSegment_occupied (s := s0) synced near occupied]
    rfl
  · rw [State.takeSegment_ahead (s := s0) synced far ahead]
    exact congrArg _ ((unsynced r.resync rfl).trans (congrArg asUnsync (resyncs r)))
  · intro late
    rw [State.takeSegment_behind (s := s0) synced far]
    refine ⟨fun few => ?_, fun many => ?_⟩
    · rw [if_neg (show ¬ s0.reseq.k ≤ s0.reseq.lateRun + 1 from Nat.not_le.2 few)]
      rfl
    · rw [if_pos (show s0.reseq.k ≤ s0.reseq.lateRun + 1 from many)]
      have lateUnsynced : (s0.onReseq Reseq.lateResync).segmentUnsynced g = asUnsync { resync late with lateResyncs := bump r.lateResyncs } := by
        rw [← resyncs late]
        exact unsynced r.lateResync rfl
      refine ⟨congrArg _ lateUnsynced, ?_⟩
      rw [exec_lateResync live waits ((Reseq.completesLateRun_iff _ _).2 ⟨synced, far, many⟩), dropped,
        State.takeSegment_behind (s := s0) synced far, if_pos (show s0.reseq.k ≤ s0.reseq.lateRun + 1 from many)]

/-! ### Delivery and the gap timer -/

/-- The gap timer re-examined where position 0 is empty (R142). -/
theorem Reseq.reexamine_eq (r : Reseq) (before : SeqNo) (empty : windowAt r.window 0 = none) :
    r.reexamine before =
      { r with
        gap :=
          if r.window = [] then none
          else match r.gap with | none => some r.tg | some v => if r.expected = before then some v else some r.tg } := by
  by_cases none : r.window = []
  · simp [Reseq.reexamine, none, gapStands]
  · rw [if_neg none, Reseq.reexamine, if_pos ((gapStands_iff empty).2 none)]
    rcases r.gap with _ | v
    · rfl
    · by_cases same : r.expected = before
      · simp [same]
      · simp [same]

/-- Settles O52: one position taken, the stop, the window after delivery and the gap timer. -/
theorem deliveryRunsInOrder : Obligations.DeliveryRunsInOrder := by
  unfold Obligations.DeliveryRunsInOrder
  intro s
  refine ⟨fun x ok stands => ?_, fun empty ok => State.deliver_stop (windowAt_zero_none empty), fun ok => ?_, fun before => ?_⟩
  · obtain ⟨rest, window, above⟩ := windowAt_zero ok stands
    refine ⟨windowShift rest, fun j => ?_, windowShift_ok ?_ above, State.deliver_cons window⟩
    · rw [windowAt_shift above, window, windowAt_cons, if_neg (Nat.succ_ne_zero j).symm]
    · rw [window] at ok
      exact (windowOk_cons.1 ok).2.2
  · obtain ⟨window, empty, -⟩ := State.deliver_window ok
    exact ⟨window, empty⟩
  · intro t gap ok
    obtain ⟨-, empty, -⟩ := State.deliver_window ok
    have examined := Reseq.reexamine_eq t.reseq before empty
    exact (congrArg (fun r => ({ t with reseq := r } : State)) examined).trans rfl

/-! ### Loss marks and ticks -/

section
variable {s : State}

theorem State.takeLoss_eq (s : State) (q : SeqNo) :
    s.takeLoss q =
      if s.reseq.synced = true ∧ distance q s.reseq.expected < 4096 ∧ windowAt s.reseq.window (distance q s.reseq.expected) = none then
        (s.onReseq (fun r =>
          { r with window := windowPut (distance q s.reseq.expected) .lost r.window, marksTaken := bump r.marksTaken })).deliverFrom
            s.reseq.expected
      else s.onReseq (fun r => { r with marksIgnored := bump r.marksIgnored }) := by
  have inWindow : (s.reseq.synced && decide (distance q s.reseq.expected < Config.windowSize) &&
      (windowAt s.reseq.window (distance q s.reseq.expected)).isNone) = true ↔
      s.reseq.synced = true ∧ distance q s.reseq.expected < 4096 ∧ windowAt s.reseq.window (distance q s.reseq.expected) = none := by
    rw [Bool.and_eq_true, Bool.and_eq_true, decide_eq_true_iff, Option.isNone_iff_eq_none, and_assoc]
    rfl
  exact if_congr inWindow rfl rfl

theorem State.tick_stopped (h : s.reseq.gap = none) : s.tick = s := by
  simp only [State.tick, h]

theorem State.tick_counts {v : Nat} (h : s.reseq.gap = some v) (runs : 1 < v) :
    s.tick = s.onReseq (fun r => { r with gap := some (v - 1) }) := by
  simp only [State.tick, h, if_neg (Nat.not_le.2 runs)]

theorem State.tick_expires {v : Nat} (h : s.reseq.gap = some v) (ends : v ≤ 1) : s.tick = s.gapExpires := by
  simp only [State.tick, h, if_pos ends]

theorem exec_tick (live : s.live) : exec .tick s = .next s.tick := State.unlessHeld_live live State.tick

/-- GAP_EXPIRY is the tick at which the gap timer reaches 0. -/
theorem exec_gapExpiry (live : s.live) {v : Nat} (h : s.reseq.gap = some v) (ends : v ≤ 1) : exec .gapExpiry s = exec .tick s := by
  have next : s.reseq.expiresNext = true := by simp only [Reseq.expiresNext, h, decide_eq_true ends]
  rw [show exec .gapExpiry s = execGapExpiry s from rfl, execGapExpiry, State.unlessHeld_live live, exec_tick live, next]
  rfl

end

/-- Settles O53: a loss mark by whether its position is empty, and a tick by the gap timer. -/
theorem lossMarksAndGaps : Obligations.LossMarksAndGaps := by
  unfold Obligations.LossMarksAndGaps
  refine ⟨fun s c q rest live waits => ?_, fun s live => ⟨fun stopped => ?_, fun v running => ⟨fun runs => ?_, fun expires => ?_⟩⟩⟩
  · intro s0 r d
    have marks : exec (.lossMark c) s = .next (s0.takeLoss q) := by rw [exec_lossMark live waits, State.dropItem_eq waits]
    rw [marks]
    exact ⟨fun taken => congrArg _ ((s0.takeLoss_eq q).trans (if_pos taken)),
      fun ignored => congrArg _ ((s0.takeLoss_eq q).trans (if_neg ignored))⟩
  · rw [exec_tick live, State.tick_stopped stopped]
  · rw [exec_tick live, State.tick_counts running runs]
    rfl
  · intro n x ok stands first
    have gap : gapLength s.reseq.window = n := gapLength_eq ok stands first
    refine ⟨lostRun n ++ s.reseq.window, gap ▸ windowOk_lostRun ok, windowAt_lostRun n s.reseq.window, ?_, exec_gapExpiry live running expires⟩
    rw [exec_tick live, State.tick_expires running expires, State.gapExpires, gap]
    rfl

end Sys2Proof.Machine
end

section
/-! PROOFS. Reassembly (O54): the rows of R144, lost positions and complete frames. -/

namespace Sys2Proof.Machine

section
variable {s : State} {g : Segment}

/-- A segment with FIRST set and no frame in progress: the first rows of R144. -/
theorem State.reassemble_begins (none : s.reseq.context = none) (first : g.first = true) : s.reassemble g = s.beginFrame g := by
  simp only [State.reassemble, none, first, if_true]

/-- A segment with FIRST set discards the frame in progress before it begins its own. -/
theorem State.reassemble_restarts {cx : Reassembly} (progress : s.reseq.context = some cx) (first : g.first = true) :
    s.reassemble g = (s.onReseq (fun r => { r with partialDiscards := bump r.partialDiscards })).beginFrame g := by
  simp only [State.reassemble, progress, first, if_true]

theorem State.reassemble_orphan (none : s.reseq.context = none) (later : g.first = false) :
    s.reassemble g = s.onReseq (fun r => { r with orphans := bump r.orphans }) := by
  simp only [State.reassemble, none, later, Bool.false_eq_true, if_false]

theorem State.reassemble_oversize {cx : Reassembly} (progress : s.reseq.context = some cx) (later : g.first = false) (full : 150 ≤ cx.count) :
    s.reassemble g = s.onReseq (fun r => { r with context := none, oversizeDiscards := bump r.oversizeDiscards }) := by
  simp only [State.reassemble, progress, later, Bool.false_eq_true, if_false,
    if_neg (show ¬ cx.count < Config.maxFrameSegments from Nat.not_lt.2 full)]

theorem State.reassemble_extends {cx : Reassembly} (progress : s.reseq.context = some cx) (later : g.first = false) (room : cx.count < 150) :
    s.reassemble g =
      if g.last then (s.onReseq (fun r => { r with context := none })).frameComplete (cx.bytes ++ g.payload.take g.count)
      else s.onReseq (fun r => { r with context := some { count := cx.count + 1, bytes := cx.bytes ++ g.payload.take g.count } }) := by
  simp only [State.reassemble, progress, later, Bool.false_eq_true, if_false,
    if_pos (show cx.count < Config.maxFrameSegments from room)]

theorem State.losePosition_idle (none : s.reseq.context = none) :
    s.losePosition = s.onReseq (fun r => { r with lostDelivered := bump r.lostDelivered }) := by
  simp only [State.losePosition, State.onReseq, none]

theorem State.losePosition_discards {cx : Reassembly} (progress : s.reseq.context = some cx) :
    s.losePosition =
      (s.onReseq (fun r =>
        { r with lostDelivered := bump r.lostDelivered, context := none, lossDiscards := bump r.lossDiscards })).signal .reseqLoss := by
  simp only [State.losePosition, State.onReseq, progress]

end

/-- Settles O54: the rows of reassembly, each by its own equation. -/
theorem reassemblyRows : Obligations.ReassemblyRows := by
  unfold Obligations.ReassemblyRows
  intro s on complete
  have completes (u : State) (f : Frame) : u.frameComplete f = complete u f := by
    simp only [State.frameComplete]
    by_cases mine : u.agent.recognises f = true
    · rw [if_pos mine]
      refine Eq.trans ?_ (if_pos (u.agent.recognises_iff f |>.1 mine)).symm
      by_cases room : u.agent.queue.length < 4
      · refine Eq.trans ?_ (if_pos room).symm
        exact State.enqueue_of_room (s := u.onReseq _) room
      · refine Eq.trans ?_ (if_neg room).symm
        exact State.enqueue_of_full (s := u.onReseq _) (Nat.not_lt.1 room)
    · rw [if_neg mine]
      exact (if_neg (mt (u.agent.recognises_iff f).2 mine)).symm
  refine ⟨fun g => ?_, State.losePosition_idle, fun held => ?_⟩
  · intro bytes begins
    have begun (u : State) : u.beginFrame g =
        if g.last then complete (u.onReseq (fun r => { r with context := none })) bytes
        else u.onReseq (fun r => { r with context := some ⟨1, bytes⟩ }) := by
      rw [← completes]
      rfl
    refine ⟨fun first none => ?_, fun first held => ?_, fun later none => State.reassemble_orphan none later,
      fun cx progress later => ⟨State.reassemble_oversize progress later, fun room => ?_⟩⟩
    · exact (State.reassemble_begins none first).trans (begun s)
    · obtain ⟨cx, progress⟩ := Option.ne_none_iff_exists'.1 held
      exact (State.reassemble_restarts progress first).trans (begun _)
    · rw [← completes]
      exact State.reassemble_extends progress later room
  · obtain ⟨cx, progress⟩ := Option.ne_none_iff_exists'.1 held
    exact State.losePosition_discards progress

end Sys2Proof.Machine
end

section
/-! PROOFS. The execution of a management frame (O55). -/

namespace Sys2Proof.Machine

/-! ### Commands leave the pins -/

@[simp] theorem State.cutCapture_pins (s : State) (c : CarrierId) : (s.cutCapture c).pins = s.pins := by
  unfold State.cutCapture
  split <;> rfl

/-- No command of a management frame changes the pins. -/
theorem State.Effect.pins {s t : State} (effect : s.Effect t) : t.pins = s.pins := by
  cases effect
  case disable c on => simp
  case trafficReset => exact s.completeFill_pins
  all_goals simp [State.updCar, State.clearStatus, State.deviceReset]

/-! ### The checks of a command (R171) -/

/-- A command through its checks, with the length that check 3 measures written out. -/
theorem checkAndRun_ok (x : Command) (used following : Nat) (s : State) :
    checkAndRun (.ok x) used following s =
      if used + 5 + successLength x s + 5 * following ≤ 1500 then runCommand x s else (⟨.tooLong, []⟩, s) :=
  if_congr decide_eq_true_iff rfl rfl

/-! ### The frame at the head of the input queue (R170) -/

section
variable {f : Frame}

theorem checkFrame_of_malformed
    (h : ¬ (21 ≤ f.length ∧ byteAt f 14 = 1#8) ∨
      ¬ (byteAt f 15).getLsbD 0 = true ∧ readCommands (byteAt f 16).toNat ((f.take (f.length - 4)).drop 17) = none) :
    checkFrame f = .malformed := by
  by_cases long : f.length < 21
  · rw [checkFrame, if_pos long]
  by_cases version : byteAt f 14 = 1#8
  · obtain ⟨flag, unread⟩ := h.resolve_left (not_not.2 ⟨Nat.not_lt.1 long, version⟩)
    rw [checkFrame, if_neg long, if_neg (not_not.2 version), if_neg flag, unread]
  · rw [checkFrame, if_neg long, if_pos version]

theorem checkFrame_of_response (good : 21 ≤ f.length ∧ byteAt f 14 = 1#8) (flag : (byteAt f 15).getLsbD 0 = true) :
    checkFrame f = .response := by
  rw [checkFrame, if_neg (Nat.not_lt.2 good.1), if_neg (not_not.2 good.2), if_pos flag]

theorem checkFrame_of_commands (good : 21 ≤ f.length ∧ byteAt f 14 = 1#8) (flag : ¬ (byteAt f 15).getLsbD 0 = true) {l : List RawCommand}
    (read : readCommands (byteAt f 16).toNat ((f.take (f.length - 4)).drop 17) = some l) : checkFrame f = .commands l := by
  rw [checkFrame, if_neg (Nat.not_lt.2 good.1), if_neg (not_not.2 good.2), if_neg flag, read]

end

section
variable {s : State} {q : QueuedFrame} {rest : List QueuedFrame}

theorem State.beginFrameExecution_empty (h : s.agent.queue = []) : s.beginFrameExecution = s := by
  simp only [State.beginFrameExecution, h]

theorem State.beginFrameExecution_malformed (idle : s.agent.execution = none) (h : s.agent.queue = q :: rest) (check : checkFrame q.frame = .malformed) :
    s.beginFrameExecution =
      { s with agent := { s.agent with queue := rest, malformed := bump s.agent.malformed } }.signal .mgmtDrop := by
  simp only [State.beginFrameExecution, State.popFrame, h, check, List.tail_cons, idle]

theorem State.beginFrameExecution_response (idle : s.agent.execution = none) (h : s.agent.queue = q :: rest) (check : checkFrame q.frame = .response) :
    s.beginFrameExecution = { s with agent := { s.agent with queue := rest, ignored := bump s.agent.ignored } } := by
  simp only [State.beginFrameExecution, State.popFrame, h, check, List.tail_cons, idle]

theorem State.beginFrameExecution_commands (h : s.agent.queue = q :: rest) {l : List RawCommand} (check : checkFrame q.frame = .commands l) :
    s.beginFrameExecution = { s with agent := { s.agent with execution := some ⟨l, []⟩ } } := by
  simp only [State.beginFrameExecution, h, check]

/-! ### Running its commands -/

theorem State.runCommands_idle (idle : s.agent.execution = none) (n : Nat) : s.runCommands n = s := by
  cases n <;> simp only [State.runCommands, State.finishFrame, idle]

theorem State.executeFrame_begins (idle : s.agent.execution = none) (n : Nat) :
    s.executeFrame n = s.beginFrameExecution.runCommands n := by
  simp [State.executeFrame, idle]

theorem State.executeFrame_goesOn {x : Execution} (running : s.agent.execution = some x) (n : Nat) : s.executeFrame n = s.runCommands n := by
  simp [State.executeFrame, running]

theorem State.runCommands_zero_of_left {raw : RawCommand} {left : List RawCommand} {done : List ReplyEntry}
    (running : s.agent.execution = some ⟨raw :: left, done⟩) : s.runCommands 0 = s := by
  simp only [State.runCommands, State.finishFrame, running]

theorem State.runCommands_reset {raw : RawCommand} {left : List RawCommand} {done : List ReplyEntry}
    (running : s.agent.execution = some ⟨raw :: left, done⟩) (reset : decodeCommand raw.code raw.args = .ok .resetDevice) (n : Nat) :
    s.runCommands (n + 1) = s.deviceReset := by
  simp only [State.runCommands, running, reset]

theorem State.runCommands_done {done : List ReplyEntry} (running : s.agent.execution = some ⟨[], done⟩) (n : Nat) :
    s.runCommands n = s.finishFrame := by
  cases n <;> simp only [State.runCommands, running]

theorem State.finishFrame_eq {done : List ReplyEntry} (running : s.agent.execution = some ⟨[], done⟩) (h : s.agent.queue = q :: rest) :
    s.finishFrame =
      State.sendResponse
        { s with agent := { s.agent with queue := rest, execution := none, responsesSent := bump s.agent.responsesSent } }
        q.side (s.agent.response q.frame done) := by
  simp only [State.finishFrame, State.popFrame, running, h, List.tail_cons]

theorem exec_managementFrameExecution (live : s.live) (n : Nat) :
    exec (.managementFrameExecution n) s = .next (s.executeFrame n) :=
  State.unlessHeld_live live (fun s => s.executeFrame n)

end

/-- A command of the frame being executed leaves the pins. -/
theorem State.ranOne_pins (s : State) (x : Execution) (raw : RawCommand) (following : Nat) : (s.ranOne x raw following).pins = s.pins :=
  (checkAndRun_effect (decodeCommand raw.code raw.args) (bodyLength x.entries) following s).pins

/-- Settles O55: the frame at the head by its checks, a command of it, and its end. -/
theorem managementFrameExecution : Obligations.ManagementFrameExecution := by
  unfold Obligations.ManagementFrameExecution
  intro s n live
  refine ⟨fun idle empty => ?_, fun q rest idle queue => ?_, fun raw rest done running => ?_, fun q rest done running queue => ?_⟩
  · rw [exec_managementFrameExecution live, State.executeFrame_begins idle, State.beginFrameExecution_empty empty,
      State.runCommands_idle idle]
  · intro f left good isResponse entries
    refine ⟨fun bad => ?_, fun isGood flag => ?_, fun l isGood flag read => ?_⟩
    · rw [exec_managementFrameExecution live, State.executeFrame_begins idle,
        State.beginFrameExecution_malformed idle queue (checkFrame_of_malformed bad)]
      exact congrArg _ (State.runCommands_idle (by exact idle) n)
    · rw [exec_managementFrameExecution live, State.executeFrame_begins idle,
        State.beginFrameExecution_response idle queue (checkFrame_of_response isGood flag)]
      exact congrArg _ (State.runCommands_idle (by exact idle) n)
    · rw [exec_managementFrameExecution live, State.executeFrame_begins idle,
        State.beginFrameExecution_commands queue (checkFrame_of_commands isGood flag read)]
      exact (exec_managementFrameExecution (s := { s with agent := { s.agent with execution := some ⟨l, []⟩ } }) live n).symm
  · refine ⟨?_, fun reset => ?_, fun other => ?_⟩
    · rw [exec_managementFrameExecution live, State.executeFrame_goesOn running, State.runCommands_zero_of_left running]
    · rw [exec_managementFrameExecution live, State.executeFrame_goesOn running, State.runCommands_reset running reset]
    · intro used ran t
      have checked : checkAndRun (decodeCommand raw.code raw.args) (bodyLength done) rest.length s = ran := by
        simp only [ran]
        rcases decodeCommand raw.code raw.args with e | x
        · rfl
        · exact checkAndRun_ok x used rest.length s
      have one : s.ranOne ⟨raw :: rest, done⟩ raw rest.length =
          { t with
            agent := { t.agent with execution := some ⟨rest, done ++ [⟨raw.code, raw.tag, ran.1.result, ran.1.data⟩]⟩ } } := by
        rw [State.ranOne, checked]
        rfl
      have after : (s.ranOne ⟨raw :: rest, done⟩ raw rest.length).live :=
        (congrArg Pins.resetLow (s.ranOne_pins _ raw rest.length)).trans live
      rw [exec_managementFrameExecution live, State.executeFrame_goesOn running, State.runCommands_succ running rfl other, ← one,
        exec_managementFrameExecution after, State.executeFrame_goesOn rfl]
  · intro body padded response t
    have made : s.agent.response q.frame done = response := by
      have head : bytesFrom q.frame 6 6 ++ s.agent.address ++ be16 s.agent.typeCode.toNat ++
          ([1#8, 1#8] ++ byteOf done.length ++ done.flatMap entryBytes) = body := by
        simp [body, bytesFrom, Agent.address, Config.addressStem, byteOf, List.append_assoc]
      rw [Agent.response, head]
      rfl
    rw [exec_managementFrameExecution live, State.executeFrame_goesOn running, State.runCommands_done running,
      State.finishFrame_eq running queue, made]
    cases q.side <;> rfl

end Sys2Proof.Machine
end

section
/-! PROOFS. STATUS (O31): the report group by group, and the clearing. -/

namespace Sys2Proof.Machine

/-! ### The fields of the report (section 13.4) -/

theorem flagByte_eq (b : Bool) : flagByte b = byteOf (if b then 1 else 0) := by cases b <;> rfl

theorem causeByte_eq (e : EndCause) : byteOf (causeCode e) = byteOf (if decide (e = .cut) then 1 else 0) := by cases e <;> rfl

/-- The kind and target of the outstanding request, or three bytes of an absent field. -/
theorem outstandingBytes_eq (st : ReqState) :
    outstandingBytes st =
      match st.outstanding with
      | some q => byteOf (if q.kind = .step then 1 else 2) ++ be16 q.target
      | none => List.replicate 3 0xFF := by
  rw [outstandingBytes]
  rcases st.outstanding with _ | ⟨kind, target⟩
  · rfl
  · cases kind <;> rfl

/-- The last-answer record, or five bytes of an absent field. -/
theorem answerBytes_eq (a : Option AnswerRecord) :
    answerBytes a =
      match a with
      | none => List.replicate 5 0xFF
      | some a =>
        byteOf a.tag.toNat ++
          match a.verdict with
          | .accept g sf => byteOf 1 ++ byteOf g ++ be16 sf.toNat
          | .refuse => byteOf 2 ++ List.replicate 3 0
          | .busy => byteOf 3 ++ List.replicate 3 0 := by
  rcases a with _ | ⟨tag, verdict⟩
  · rfl
  · cases verdict <;> rfl

/-- Carrier State Control and the lane, its two codes of two values as flags. -/
theorem controlGroup_eq (k : Carrier) :
    controlGroup k =
      byteOf (statusCode k.control.state) ++ be16 k.control.freshness ++ be16 k.control.acqCount ++
        byteOf (if decide (k.control.mode = .fixed) then 1 else 0) ++ byteOf (if decide (k.control.recovery = .latch) then 1 else 0) ++
        counterBytes (controlCounters k.control) ++ counterBytes (laneCounters k.lane) := by
  have mode : ∀ m : Mode, byteOf (match m with | .adaptive => 0 | .fixed => 1) = byteOf (if decide (m = .fixed) then 1 else 0) := by
    rintro (_ | _) <;> rfl
  have recovery : ∀ r : Recovery, byteOf (match r with | .auto => 0 | .latch => 1) = byteOf (if decide (r = .latch) then 1 else 0) := by
    rintro (_ | _) <;> rfl
  rw [← mode, ← recovery]
  rfl

theorem Quad.flatMap_toList {α β : Type} (q : Quad α) (f : α → List β) :
    q.toList.flatMap f = f (q.get 0) ++ f (q.get 1) ++ f (q.get 2) ++ f (q.get 3) := by
  simp [Quad.toList, Quad.get]

theorem Alert.mask_bytes (a : Alert) : alertBytes a = be32 a.latches.toNat ++ be32 a.mask.toNat ++ byteOf (if a.line then 1 else 0) := by
  rw [alertBytes, flagByte_eq]
  rfl

/-- The Resequencer's group, the positions of each kind counted by listing them. -/
theorem Reseq.bytes_eq (r : Reseq) :
    reseqBytes r =
      byteOf (if r.synced then 1 else 0) ++ be16 r.expected.toNat ++ be16 (r.window.filter (fun x => !isLost x.2)).length ++
        be16 (r.window.filter (fun x => isLost x.2)).length ++ be16 (match r.gap with | some v => v | none => 0) ++ be16 r.lateRun ++
        contextBytes r.context ++ counterBytes (reseqCounters r) := by
  rw [reseqBytes, flagByte_eq, List.countP_eq_length_filter, List.countP_eq_length_filter]
  cases r.gap <;> rfl

theorem runStatus_other {clear : Byte} (h : 2 ≤ clear.toNat) (s : State) : runStatus clear s = (⟨.range, []⟩, s) := by
  unfold runStatus
  split
  · omega
  · omega
  · rfl

/-- Settles O31: the report group by group, and STATUS by the value of clear. -/
theorem statusReportsAndClears : Obligations.StatusReportsAndClears := by
  unfold Obligations.StatusReportsAndClears
  intro s clear live fours two one flag absent carrier cls all q r y lost report
  have carriers (k : Carrier) : carrierBytes k = carrier k := by
    rw [carrierBytes, controlGroup_eq, requesterGroup, schedulerGroup, flagByte_eq, flagByte_eq, outstandingBytes_eq, answerBytes_eq]
    simp only [carrier, counterBytes, List.append_assoc] <;> rfl
  have traffic : trafficBytes s = 
      fours (siteCounters s.site ++ [s.classifier.drops, s.classifier.defaultFrames]) ++
        all (fun c => be16 (s.admission.contributions.get c)) ++ be16 s.admission.contributions.sum ++
        all (fun k => flag (s.admission.shed.get k)) ++ all cls ++ all (fun k => be16 (q.occupancy.get k)) ++ be16 q.free ++
        all (fun k => be16 (q.frames.get k).length) ++ be16 q.seq.toNat ++ cursorBytes q.cursor ++ be32 q.framesStarted := by
    rw [trafficBytes]
    simp only [Quad.flatMap_toList, flagByte_eq, all, fours, counterBytes, List.flatMap_append, List.append_assoc] <;> rfl
  have reported : statusReport s = report := by
    rw [statusReport, Quad.flatMap_toList, Alert.mask_bytes, traffic, Reseq.bytes_eq, historyBytes, causeByte_eq]
    simp only [carriers] <;> rfl
  have length : report.length = 1056 := by rw [← reported, statusReport_length]
  have fits : successLength (.status clear) s ≤ 1492 := by
    rw [successLength, statusReport_length]
    decide
  refine ⟨fun big => ?_, fun no => ?_, ?_, ?_, fun yes => ?_⟩
  · exact aloneAnswer_run live fits (runStatus_other big s)
  · subst no
    rw [← reported]
    exact aloneAnswer_run live fits rfl
  · rw [length, statusReport_length]
  · rw [length]; decide
  · subst yes
    refine ⟨s.clearStatus, ?_, fun c => ?_, rfl, rfl, fun i => ?_, rfl, rfl, rfl, rfl, rfl, rfl, rfl⟩
    · rw [← reported]
      exact aloneAnswer_run live fits rfl
    · simp only [State.car, State.clearStatus_carriers, Quad.get_map]
      rfl
    · exact Vector.getElem_map _ _

end Sys2Proof.Machine
end
